-- ==== Sys2Proof/Word.lean ====
section
/-! DEFINITION. The words of the block: a byte, and the seventeen bytes of a payload. -/

namespace Sys2Proof

/-- A byte of the stream, an unsigned integer 0..255 (00_scope.md R13). -/
abbrev Byte := BitVec 8

/-- The seventeen payload bytes after a frame marker (00_scope.md R10, `N_PAYLOAD`; 30_encoding.md R70). -/
abbrev Payload := Vector Byte 17

end Sys2Proof
end

