-- ==== Sys2Proof/Events.lean ====
section
/-! DEFINITION. What the block reports: the output events and the measurement record
(30_encoding.md R80 to R84). -/

namespace Sys2Proof

/-- The source of a frame (00_scope.md R16; 30_encoding.md R80). -/
inductive Source where
  /-- `Live`, encoded 0. -/
  | live
  /-- `PreRecorded`, encoded 1. -/
  | preRecorded
deriving DecidableEq, Repr, Inhabited

/-- Why a frame did not decode (30_encoding.md R80, R83). -/
inductive DecodeErr where
  /-- A byte 1..16 above 9 (41_payload_decoder.md R136). -/
  | invalidDigit
  /-- Not a valid date and time (42_timestamp.md R175). -/
  | invalidTimestamp
  /-- A range code outside 0..6 (41_payload_decoder.md R141). -/
  | invalidRange
deriving DecidableEq, Repr, Inhabited

/-- Where an abort came (30_encoding.md R80, R84). -/
inductive Phase where
  /-- In `AwaitingSync`. -/
  | sync
  /-- In `PayloadExpected`. -/
  | payload
deriving DecidableEq, Repr, Inhabited

/-- A measurement record, each field at the width of 30_encoding.md R81. -/
structure MeasurementRecord where
  /-- From `st.src`. -/
  source : Source
  /-- Two-digit year; the calendar year is 2000 + yy. -/
  yy : BitVec 7
  month : BitVec 4
  /-- After the day-offset correction. -/
  day : BitVec 5
  hour : BitVec 5
  minute : BitVec 6
  second : BitVec 6
  /-- The decibel value in tenths. -/
  dbTenths : BitVec 14
  /-- Bit 6 low_battery, 5 max_enabled, 4 memory_full, 3 weighting_A, 2 slow, 1 under, 0 over. -/
  flags : BitVec 7
  /-- Payload byte 0 AND 0x80. -/
  unknownBits : BitVec 8
  /-- Lower bound of the range in dB, inclusive. -/
  rangeLow : BitVec 8
  /-- Upper bound of the range in dB, inclusive. -/
  rangeHigh : BitVec 8
deriving DecidableEq, Repr, Inhabited

/-- The output events; a step emits at most one (30_encoding.md R80). -/
inductive OutEvent where
  /-- A successful decode. -/
  | record (r : MeasurementRecord)
  /-- A failed decode: the frame's source and the error, no byte index and no data (D18). -/
  | decodeError (src : Source) (code : DecodeErr)
  /-- Protocol advisory: an unrecognised marker byte. -/
  | unknownMarker (b : Byte)
  /-- The confirmed end marker, 0x90. -/
  | endMarker (b : Byte)
  /-- The unconfirmed end marker, 0x8D. -/
  | endUnconfirmed (b : Byte)
  /-- Transport condition: where the abort came and how many payload bytes had been received. -/
  | transport (phase : Phase) (count : BitVec 5)
deriving DecidableEq, Repr, Inhabited

end Sys2Proof
end

