-- ==== Sys2Proof/Config.lean ====
section
/-! DEFINITION. What an implementation fixes: the parameters of 00_scope.md R10 and R11, and the free values
of what the spec leaves unspecified after reset (10_state.md R34). -/

namespace Sys2Proof

/-- The one named parameter, `P_MARK141`: what byte 0x8D is reported as (00_scope.md R11; D7, K1). -/
inductive Mark141 where
  /-- `DistinctEnd`, the default: an unconfirmed end marker. -/
  | distinctEnd
  /-- `Unknown`: an unknown marker. -/
  | unknown
deriving DecidableEq, Repr, Inhabited

/-- `N_PAYLOAD`, the number of payload bytes after a frame marker (R10). -/
def Config.nPayload : Nat := 17
/-- Marker base for PreRecorded frames; range codes 0..6 are added to it (R10). -/
def Config.preBase : Byte := 0x80
/-- Marker base for Live frames; range codes 0..6 are added to it (R10). -/
def Config.liveBase : Byte := 0xA0
/-- The confirmed end marker (R10). -/
def Config.endByte : Byte := 0x90
/-- The unconfirmed end marker (R10). -/
def Config.endUnconfByte : Byte := 0x8D
/-- The number of range codes, 0..6 (R10). -/
def Config.nRangeCodes : Nat := 7
/-- The year prefix "20": the calendar year is this plus the two-digit year (R10). -/
def Config.yearBase : Nat := 2000
/-- The day offset (R10; 42_timestamp.md R172). -/
def Config.dayOffset : Nat := 40

/-- FREE VALUE. What a reset edge leaves in payload buffer byte `i`, which the spec leaves unspecified
(10_state.md R34; 70_reset_and_hazards.md R230; K5), at draw `n`. Nothing constrains it. Log entry 7. -/
opaque Config.freeByte (n i : Nat) : Byte

/-- FREE VALUE. What a reset edge leaves in the output event register, which the spec leaves unspecified and
does not show (10_state.md R34), at draw `n`. Nothing constrains it. Log entry 7. -/
opaque Config.freeEvent (n : Nat) : OutEvent

end Sys2Proof
end

