-- ==== Sys2Proof/Syntax.lean ====
section
/-! DEFINITION. The input transfers and the transfer classes: one constructor of `Instr` for each row of
spec/opcode_table.json (00_scope.md R2; 30_encoding.md R60, R61, R75). -/

namespace Sys2Proof

/-- The two synchronizer states, `st.sync` (10_state.md R20, R22). -/
inductive Sync where
  /-- 0: the next byte is classified as a possible marker. -/
  | awaitingSync
  /-- 1: the next byte is payload byte `st.cnt`. -/
  | payloadExpected
deriving DecidableEq, Repr, Inhabited

/-- One input transfer (00_scope.md R8; 30_encoding.md R60). -/
inductive InEvent where
  /-- `Byte(b)`. -/
  | byte (b : Byte)
  /-- `Abort`: the transport reported a timeout or a short read. -/
  | abort
deriving DecidableEq, Repr, Inhabited

/-- The synchronizer's verdict on one byte (00_scope.md R16; 40_synchronizer.md R100). -/
inductive SyncResult where
  | needMore
  | frame (kind : Source) (range : BitVec 3)
  | endMarker
  | endMarkerUnconfirmed
  | unknownMarker (b : Byte)
deriving DecidableEq, Repr, Inhabited

/-- The transfer classes, one for each row of spec/opcode_table.json. A class whose row leaves bits of the
byte free carries the byte. -/
inductive Instr where
  /-- NEEDMORE (R103). -/
  | needmore (b : Byte)
  /-- FRAME_PRE_R0 (R101). -/
  | framePreR0
  /-- FRAME_PRE_R1 (R101). -/
  | framePreR1
  /-- FRAME_PRE_R2 (R101). -/
  | framePreR2
  /-- FRAME_PRE_R3 (R101). -/
  | framePreR3
  /-- FRAME_PRE_R4 (R101). -/
  | framePreR4
  /-- FRAME_PRE_R5 (R101). -/
  | framePreR5
  /-- FRAME_PRE_R6 (R101). -/
  | framePreR6
  /-- FRAME_LIVE_R0 (R102). -/
  | frameLiveR0
  /-- FRAME_LIVE_R1 (R102). -/
  | frameLiveR1
  /-- FRAME_LIVE_R2 (R102). -/
  | frameLiveR2
  /-- FRAME_LIVE_R3 (R102). -/
  | frameLiveR3
  /-- FRAME_LIVE_R4 (R102). -/
  | frameLiveR4
  /-- FRAME_LIVE_R5 (R102). -/
  | frameLiveR5
  /-- FRAME_LIVE_R6 (R102). -/
  | frameLiveR6
  /-- END (R105). -/
  | endMarker
  /-- END_UNCONF (R106). -/
  | endUnconf
  /-- UNKNOWN (R108). -/
  | unknown (b : Byte)
  /-- PAYLOAD_BYTE (R130). Its other operand, k, is read from `st.cnt`. -/
  | payloadByte (b : Byte)
  /-- PAYLOAD_LAST (R131). -/
  | payloadLast (b : Byte)
  /-- ABORT (R112). -/
  | abort
deriving DecidableEq, Repr, Inhabited

end Sys2Proof
end

