-- ==== Sys2Proof/WellFormed.lean ====
section
/-! DEFINITION. Which transfer classes are well formed: the operand values each class of 30_encoding.md R61
admits, and the condition column of spec/opcode_table.json. -/

namespace Sys2Proof

/-- The byte is a PreRecorded frame marker, 0x80..0x86 (30_encoding.md R61, R63). -/
def isFramePre (b : Byte) : Bool := 0x80#8 ≤ b && b ≤ 0x86#8

/-- The byte is a Live frame marker, 0xA0..0xA6 (30_encoding.md R61, R62). -/
def isFrameLive (b : Byte) : Bool := 0xA0#8 ≤ b && b ≤ 0xA6#8

/-- The operands are ones the class has, and the class exists under the parameter (40_synchronizer.md R103,
R106, R108, operand lines). -/
def Instr.wf (m : Mark141) : Instr → Bool
  | .needmore b => !b.getLsbD 7
  | .framePreR0 => true
  | .framePreR1 => true
  | .framePreR2 => true
  | .framePreR3 => true
  | .framePreR4 => true
  | .framePreR5 => true
  | .framePreR6 => true
  | .frameLiveR0 => true
  | .frameLiveR1 => true
  | .frameLiveR2 => true
  | .frameLiveR3 => true
  | .frameLiveR4 => true
  | .frameLiveR5 => true
  | .frameLiveR6 => true
  | .endMarker => true
  | .endUnconf => m == .distinctEnd
  | .unknown b =>
      b.getLsbD 7 && !isFramePre b && !isFrameLive b && b != 0x90#8 && !(b == 0x8D#8 && m == .distinctEnd)
  | .payloadByte _ => true
  | .payloadLast _ => true
  | .abort => true

end Sys2Proof
end

