-- ==== Sys2Proof/Decode.lean ====
section
/-! DEFINITION. The decoder: `classify` (40_synchronizer.md R100), the choice of the transfer class by the
sequencer state (R110), the opcode map of 30_encoding.md R75 as a table, and the encoder. -/

namespace Sys2Proof

/-- `classify(b)`, with the static parameter `P_MARK141` (40_synchronizer.md R100; the priority chain of
30_encoding.md R65). The range code is `b - base`, which is `b[2:0]` on the two frame classes (R62, R63). -/
def classify (m : Mark141) (b : Byte) : SyncResult :=
  if b.getLsbD 7 = false then .needMore
  else if Config.preBase ≤ b ∧ b ≤ Config.preBase + 6 then .frame .preRecorded ((b - Config.preBase).setWidth 3)
  else if Config.liveBase ≤ b ∧ b ≤ Config.liveBase + 6 then .frame .live ((b - Config.liveBase).setWidth 3)
  else if b = Config.endByte then .endMarker
  else if b = Config.endUnconfByte ∧ m = .distinctEnd then .endMarkerUnconfirmed
  else .unknownMarker b

/-- The FRAME_PRE and FRAME_LIVE rows by source and range code (R101, R102). Range code 7 has no row. -/
def frameInstr (kind : Source) (rc : BitVec 3) : Option Instr :=
  match kind, rc.toNat with
  | .preRecorded, 0 => some .framePreR0
  | .preRecorded, 1 => some .framePreR1
  | .preRecorded, 2 => some .framePreR2
  | .preRecorded, 3 => some .framePreR3
  | .preRecorded, 4 => some .framePreR4
  | .preRecorded, 5 => some .framePreR5
  | .preRecorded, 6 => some .framePreR6
  | .live, 0 => some .frameLiveR0
  | .live, 1 => some .frameLiveR1
  | .live, 2 => some .frameLiveR2
  | .live, 3 => some .frameLiveR3
  | .live, 4 => some .frameLiveR4
  | .live, 5 => some .frameLiveR5
  | .live, 6 => some .frameLiveR6
  | _, _ => none

/-- The transfer class of a byte in `AwaitingSync`, from its classification (R110). -/
def markerInstr (b : Byte) (r : SyncResult) : Option Instr :=
  match r with
  | .needMore => some (.needmore b)
  | .frame kind rc => frameInstr kind rc
  | .endMarker => some .endMarker
  | .endMarkerUnconfirmed => some .endUnconf
  | .unknownMarker c => some (.unknown c)

/-- The transfer class of a byte in `PayloadExpected`: byte `cnt` of the payload, whatever its value
(41_payload_decoder.md R130, R131). No row covers `cnt` above 16, and no run reaches it (10_state.md R21). -/
def payloadInstr (b : Byte) (cnt : BitVec 5) : Option Instr :=
  if cnt.toNat < 16 then some (.payloadByte b)
  else if cnt.toNat = 16 then some (.payloadLast b)
  else none

/-- Which transfer class a transfer is, in a sequencer state, under the parameter (40_synchronizer.md R110):
an abort in any state, a payload byte in `PayloadExpected`, a classified byte in `AwaitingSync`. -/
def decode (m : Mark141) (sync : Sync) (cnt : BitVec 5) (e : InEvent) : Option Instr :=
  match e, sync with
  | .abort, _ => some .abort
  | .byte b, .payloadExpected => payloadInstr b cnt
  | .byte b, .awaitingSync => markerInstr b (classify m b)

/-- The sequencer states and parameter values in which the class's row applies: the state and condition columns
of spec/opcode_table.json (30_encoding.md R75). -/
def Instr.appliesIn (m : Mark141) (sync : Sync) (cnt : BitVec 5) : Instr → Bool
  | .needmore _ => sync == .awaitingSync
  | .framePreR0 => sync == .awaitingSync
  | .framePreR1 => sync == .awaitingSync
  | .framePreR2 => sync == .awaitingSync
  | .framePreR3 => sync == .awaitingSync
  | .framePreR4 => sync == .awaitingSync
  | .framePreR5 => sync == .awaitingSync
  | .framePreR6 => sync == .awaitingSync
  | .frameLiveR0 => sync == .awaitingSync
  | .frameLiveR1 => sync == .awaitingSync
  | .frameLiveR2 => sync == .awaitingSync
  | .frameLiveR3 => sync == .awaitingSync
  | .frameLiveR4 => sync == .awaitingSync
  | .frameLiveR5 => sync == .awaitingSync
  | .frameLiveR6 => sync == .awaitingSync
  | .endMarker => sync == .awaitingSync
  | .endUnconf => sync == .awaitingSync && m == .distinctEnd
  | .unknown _ => sync == .awaitingSync
  | .payloadByte _ => sync == .payloadExpected && decide (cnt.toNat < 16)
  | .payloadLast _ => sync == .payloadExpected && decide (cnt.toNat = 16)
  | .abort => true

/-- The transfer that is an instruction of the class, from the encoding column of spec/opcode_table.json. -/
def encode : Instr → InEvent
  | .needmore b => .byte b
  | .framePreR0 => .byte 0x80
  | .framePreR1 => .byte 0x81
  | .framePreR2 => .byte 0x82
  | .framePreR3 => .byte 0x83
  | .framePreR4 => .byte 0x84
  | .framePreR5 => .byte 0x85
  | .framePreR6 => .byte 0x86
  | .frameLiveR0 => .byte 0xA0
  | .frameLiveR1 => .byte 0xA1
  | .frameLiveR2 => .byte 0xA2
  | .frameLiveR3 => .byte 0xA3
  | .frameLiveR4 => .byte 0xA4
  | .frameLiveR5 => .byte 0xA5
  | .frameLiveR6 => .byte 0xA6
  | .endMarker => .byte 0x90
  | .endUnconf => .byte 0x8D
  | .unknown b => .byte b
  | .payloadByte b => .byte b
  | .payloadLast b => .byte b
  | .abort => .abort

/-- A transfer as one word of the input ports: `in_abort` is bit 8 and `in_data` bits 7..0, and `in_data` of an
abort is ignored (30_encoding.md R90). The numbering is the model's: log entry 11. -/
def InEvent.ofWord (w : Nat) : InEvent :=
  if w.testBit 8 then .abort else .byte (BitVec.ofNat 8 w)

/-- The word of a transfer; an abort carries no data, and its data bits are written 0. -/
def InEvent.toWord : InEvent → Nat
  | .byte b => b.toNat
  | .abort => 256

/-- The word of an instruction. -/
def encodeWord (i : Instr) : Nat := (encode i).toWord

/-! The opcode map of 30_encoding.md R75, row by row. -/

/-- The state column: the sequencer states a row names. -/
inductive RowState where
  | awaitingSync
  | payloadBelow16
  | payloadAt16
  | any
deriving DecidableEq, Repr

/-- A row of spec/opcode_table.json. `make` gives the class its byte. -/
structure Row where
  mnemonic : String
  state : RowState
  priority : Nat
  matchBits : Byte
  mask : Byte
  needsDistinctEnd : Bool
  make : Byte → Instr

/-- The sequencer state is one the column names. -/
def RowState.holds (sync : Sync) (cnt : BitVec 5) : RowState → Bool
  | .awaitingSync => sync == .awaitingSync
  | .payloadBelow16 => sync == .payloadExpected && decide (cnt.toNat < 16)
  | .payloadAt16 => sync == .payloadExpected && decide (cnt.toNat = 16)
  | .any => true

/-- The row matches the transfer: its state and condition columns hold and, for a byte, `(b AND mask) = match`.
Priority 0 is ABORT, which `in_abort` alone selects, before any byte match (R75). -/
def Row.selects (m : Mark141) (sync : Sync) (cnt : BitVec 5) (e : InEvent) (r : Row) : Bool :=
  r.state.holds sync cnt && (!r.needsDistinctEnd || m == .distinctEnd) &&
    match e with
    | .abort => r.priority == 0
    | .byte b => r.priority != 0 && (b &&& r.mask) == r.matchBits

/-- The instruction a row makes of a transfer. -/
def Row.instr (e : InEvent) (r : Row) : Instr :=
  match e with
  | .byte b => r.make b
  | .abort => r.make 0

/-- An exact-match marker row: priority 2, mask 0xFF (R75). -/
def Row.exact (mnemonic : String) (b : Byte) (i : Instr) : Row :=
  { mnemonic, state := .awaitingSync, priority := 2, matchBits := b, mask := 0xFF, needsDistinctEnd := false,
    make := fun _ => i }

/-- spec/opcode_table.json, its rows in its order. -/
def opcodeTable : List Row :=
  [ { mnemonic := "NEEDMORE", state := .awaitingSync, priority := 1, matchBits := 0x00, mask := 0x80,
      needsDistinctEnd := false, make := .needmore },
    .exact "FRAME_PRE_R0" 0x80 .framePreR0,
    .exact "FRAME_PRE_R1" 0x81 .framePreR1,
    .exact "FRAME_PRE_R2" 0x82 .framePreR2,
    .exact "FRAME_PRE_R3" 0x83 .framePreR3,
    .exact "FRAME_PRE_R4" 0x84 .framePreR4,
    .exact "FRAME_PRE_R5" 0x85 .framePreR5,
    .exact "FRAME_PRE_R6" 0x86 .framePreR6,
    .exact "FRAME_LIVE_R0" 0xA0 .frameLiveR0,
    .exact "FRAME_LIVE_R1" 0xA1 .frameLiveR1,
    .exact "FRAME_LIVE_R2" 0xA2 .frameLiveR2,
    .exact "FRAME_LIVE_R3" 0xA3 .frameLiveR3,
    .exact "FRAME_LIVE_R4" 0xA4 .frameLiveR4,
    .exact "FRAME_LIVE_R5" 0xA5 .frameLiveR5,
    .exact "FRAME_LIVE_R6" 0xA6 .frameLiveR6,
    .exact "END" 0x90 .endMarker,
    { Row.exact "END_UNCONF" 0x8D .endUnconf with needsDistinctEnd := true },
    { mnemonic := "UNKNOWN", state := .awaitingSync, priority := 3, matchBits := 0x80, mask := 0x80,
      needsDistinctEnd := false, make := .unknown },
    { mnemonic := "PAYLOAD_BYTE", state := .payloadBelow16, priority := 1, matchBits := 0x00, mask := 0x00,
      needsDistinctEnd := false, make := .payloadByte },
    { mnemonic := "PAYLOAD_LAST", state := .payloadAt16, priority := 1, matchBits := 0x00, mask := 0x00,
      needsDistinctEnd := false, make := .payloadLast },
    { mnemonic := "ABORT", state := .any, priority := 0, matchBits := 0x00, mask := 0x00,
      needsDistinctEnd := false, make := fun _ => .abort } ]

/-- The class of the first transfer after reset whose port word is `w`: read in `AwaitingSync` under the default
of `P_MARK141` (70_reset_and_hazards.md R232; log entry 11). Bits at `nbits` and above are 0. -/
def decodeTableWord (nbits w : Nat) : Option Instr :=
  decode .distinctEnd .awaitingSync 0 (InEvent.ofWord (w % 2 ^ nbits))

end Sys2Proof
end

