-- ==== Sys2Proof/Machine/Flags.lean ====
section
/-! DEFINITION. The bit-flag extractor (41_payload_decoder.md R132 to R134; 30_encoding.md R71, R81). -/

namespace Sys2Proof.Machine

/-- The source as a bit: 0 Live, 1 PreRecorded (10_state.md R23; 41_payload_decoder.md R132). -/
def sourceBit : Source → Bool
  | .live => false
  | .preRecorded => true

/-- Bit 3 of the flags, the effective frequency weighting: 1 is A, 0 is C. The raw bit is inverted for a
PreRecorded frame, and only for one (R133). -/
def weightingA (p0 : Byte) (src : Source) : Bool := (p0.getLsbD 3).xor (sourceBit src)

/-- `flags(p0, src)`, most significant bit first: low_battery, max_enabled, memory_full, weighting_A, slow, under,
over (R132). Bit 7 of the byte does not enter it. -/
def flags (p0 : Byte) (src : Source) : BitVec 7 :=
  BitVec.ofBool (p0.getLsbD 6) ++ BitVec.ofBool (p0.getLsbD 5) ++ BitVec.ofBool (p0.getLsbD 4) ++
    BitVec.ofBool (weightingA p0 src) ++
    BitVec.ofBool (p0.getLsbD 2) ++ BitVec.ofBool (p0.getLsbD 1) ++ BitVec.ofBool (p0.getLsbD 0)

/-- `unknown_bits`: bit 7 of payload byte 0, in its own position (R134). -/
def unknownBits (p0 : Byte) : BitVec 8 := p0 &&& 0x80

/-! The seven status flags by name (10_state.md R30; 30_encoding.md R81), read from a record's flags field. -/

/-- `low_battery`, bit 6. -/
def lowBattery (f : BitVec 7) : Bool := f.getLsbD 6
/-- `max_enabled`, bit 5. -/
def maxEnabled (f : BitVec 7) : Bool := f.getLsbD 5
/-- `memory_full`, bit 4. -/
def memoryFull (f : BitVec 7) : Bool := f.getLsbD 4
/-- `frequency_weighting`, bit 3, after inversion: true is A. -/
def frequencyWeightingA (f : BitVec 7) : Bool := f.getLsbD 3
/-- `slow_time_weighting`, bit 2: true is slow (1 s), false fast (125 ms). -/
def slowTimeWeighting (f : BitVec 7) : Bool := f.getLsbD 2
/-- `under_range_warning`, bit 1. -/
def underRangeWarning (f : BitVec 7) : Bool := f.getLsbD 1
/-- `over_range_warning`, bit 0. -/
def overRangeWarning (f : BitVec 7) : Bool := f.getLsbD 0

end Sys2Proof.Machine
end

