-- ==== Sys2Proof/Machine/Operands.lean ====
section
/-! DEFINITION. The operands of the decode: the payload's digit bytes and the numbers they spell
(30_encoding.md R70, R72; 41_payload_decoder.md R135 to R137). Arithmetic is on unbounded integers and narrowed at
the end, as 00_scope.md R13 says. -/

namespace Sys2Proof.Machine

/-- `bcd2(hi, lo)`, most significant digit first (R135; 20_memory.md R43). The spec defines it for
operands of at most 9 only; that larger bytes follow the same formula is a DESIGN CHOICE (log entry 18). -/
def bcd2 (hi lo : Byte) : Nat := 10 * hi.toNat + lo.toNat

/-- `digits_ok(p)`: each of bytes 1..16 is at most 9 as a whole unsigned byte; byte 0 is never checked (R136). -/
def digitsOk (p : Payload) : Bool := (p.toList.drop 1).all (fun b => b ≤ 9#8)

/-- `decibel(p)`: the value in tenths of a dB (R137), computed only after the digit check; on a digit above 9 the formula is
a DESIGN CHOICE (log entry 18). -/
def decibel (p : Payload) : Nat :=
  1000 * p[1].toNat + 100 * p[2].toNat + 10 * p[3].toNat + p[4].toNat

/-- The two-digit year (42_timestamp.md R170). -/
def rawYear (p : Payload) : Nat := bcd2 p[5] p[6]
/-- The month before validation (R171). -/
def rawMonth (p : Payload) : Nat := bcd2 p[7] p[8]
/-- `day_raw`, before the day-offset correction (R172). -/
def rawDay (p : Payload) : Nat := bcd2 p[9] p[10]
/-- The hour before validation (R173). -/
def rawHour (p : Payload) : Nat := bcd2 p[11] p[12]
/-- The minute before validation (R173). -/
def rawMinute (p : Payload) : Nat := bcd2 p[13] p[14]
/-- The second before validation (R173). -/
def rawSecond (p : Payload) : Nat := bcd2 p[15] p[16]

/-- The day after the day-offset correction, a signed integer, for Live and PreRecorded frames alike (R172, D17). -/
def correctedDay (p : Payload) : Int := (rawDay p : Int) - Config.dayOffset

end Sys2Proof.Machine
end

