-- ==== Sys2Proof/Machine/Timestamp.lean ====
section
/-! DEFINITION. The timestamp assembler (42_timestamp.md R170 to R177). -/

namespace Sys2Proof.Machine

/-- An assembled timestamp, each field at the width of 30_encoding.md R81. -/
structure Timestamp where
  yy : BitVec 7
  month : BitVec 4
  day : BitVec 5
  hour : BitVec 5
  minute : BitVec 6
  second : BitVec 6
deriving DecidableEq, Repr

/-- The leap-year rule (42_timestamp.md R174; D10, G1). -/
def leap (y : Nat) : Bool := (y % 4 == 0 && y % 100 != 0) || y % 400 == 0

/-- `days_in_month(Y, m)` for m in 1..12 (R174; D10, G1). It is asked only of such a month (R175).
For any other month, and for years outside 2000..2099, its value is a DESIGN CHOICE (log entry 18). -/
def daysInMonth (y m : Nat) : Nat :=
  if m = 1 ∨ m = 3 ∨ m = 5 ∨ m = 7 ∨ m = 8 ∨ m = 10 ∨ m = 12 then 31
  else if m = 4 ∨ m = 6 ∨ m = 9 ∨ m = 11 then 30
  else if leap y then 29
  else 28

/-- `valid(Y, month, day, hour, minute, second)`, the day after its correction (R175; D10, G2). -/
def validDateTime (y month : Nat) (day : Int) (hour minute second : Nat) : Bool :=
  if 1 ≤ month ∧ month ≤ 12 then
    decide (1 ≤ day) && decide (day ≤ daysInMonth y month) &&
      decide (hour ≤ 23) && decide (minute ≤ 59) && decide (second ≤ 59)
  else false

/-- `timestamp(p)`: assemble, correct the day, validate; `none` is `Invalid` (R176). The spec has it on digits
0..9 only; what it answers on a larger byte is a DESIGN CHOICE (log entry 18), which `decodePayload` never reaches. -/
def timestamp (p : Payload) : Option Timestamp :=
  if validDateTime (Config.yearBase + rawYear p) (rawMonth p) (correctedDay p) (rawHour p) (rawMinute p) (rawSecond p)
  then some
    { yy := BitVec.ofNat 7 (rawYear p)
      month := BitVec.ofNat 4 (rawMonth p)
      day := BitVec.ofInt 5 (correctedDay p)
      hour := BitVec.ofNat 5 (rawHour p)
      minute := BitVec.ofNat 6 (rawMinute p)
      second := BitVec.ofNat 6 (rawSecond p) }
  else none

end Sys2Proof.Machine
end

