-- ==== Sys2Proof/Machine/PayloadDecoder.lean ====
section
/-! DEFINITION. The range-code lookup table and the decode function (41_payload_decoder.md R140 to R152). -/

namespace Sys2Proof.Machine

/-- The seven ranges, low and high bound in dB, by range code (R140). -/
def rangeTable : List (BitVec 8 × BitVec 8) :=
  [(30, 80), (40, 90), (50, 100), (60, 110), (70, 120), (80, 130), (30, 130)]

/-- `range_lut(rc)`; code 7 has no entry and never defaults to another range (R140, R141). -/
def rangeLut (rc : BitVec 3) : Option (BitVec 8 × BitVec 8) := rangeTable[rc.toNat]?

/-- What `decode` returns (R150): never a partial record. -/
inductive DecodeResult where
  | ok (r : MeasurementRecord)
  | err (code : DecodeErr)
deriving DecidableEq, Repr

/-- `decode(p, src, rc)`: the checks in the order digits, timestamp, range, and the first that fails gives the
error (R150, D9). -/
def decodePayload (p : Payload) (src : Source) (rc : BitVec 3) : DecodeResult :=
  if digitsOk p then
    match timestamp p with
    | none => .err .invalidTimestamp
    | some t =>
      match rangeLut rc with
      | none => .err .invalidRange
      | some (lo, hi) =>
        .ok
          { source := src, yy := t.yy, month := t.month, day := t.day, hour := t.hour, minute := t.minute,
            second := t.second, dbTenths := BitVec.ofNat 14 (decibel p), flags := flags p[0] src,
            unknownBits := unknownBits p[0], rangeLow := lo, rangeHigh := hi }
  else .err .invalidDigit

/-- The event the 17th payload byte emits (R131). -/
def decodeEvent (p : Payload) (src : Source) (rc : BitVec 3) : OutEvent :=
  match decodePayload p src rc with
  | .ok r => .record r
  | .err code => .decodeError src code

end Sys2Proof.Machine
end

