-- ==== Sys2Proof/Machine/State.lean ====
section
/-! DEFINITION. The state of the block, its reset state, and the reasons a step can stop. -/

namespace Sys2Proof.Machine

/-- The input ports sampled at one rising edge of `clk` (30_encoding.md R90). -/
structure Pins where
  /-- `rst`: synchronous reset, active high. -/
  rst : Bool
  /-- `in_valid`: the transport offers a transfer. -/
  inValid : Bool
  /-- `in_abort`: with `inValid`, the transfer is `Abort`. -/
  inAbort : Bool
  /-- `in_data`: with `inValid` and without `inAbort`, the byte of the transfer. -/
  inData : Byte
  /-- `out_ready`: the consumer takes the held event at this edge. -/
  outReady : Bool
deriving DecidableEq, Repr, Inhabited

/-- Everything the spec gives the block (10_state.md R20, R34), the build-time parameter (R31), and the
model's own record of the outside world (INVENTORY.md). -/
structure State where
  /-- `P_MARK141` (00_scope.md R11): no step changes it. Log entry 4. -/
  mark141 : Mark141
  /-- `st.sync` (R22). -/
  sync : Sync
  /-- `st.src` (R23). -/
  src : Source
  /-- `st.rc` (R24): 3 bits, only 0..6 is ever written. -/
  rc : BitVec 3
  /-- `st.cnt` (R25): 5 bits, values 0..16. -/
  cnt : BitVec 5
  /-- `buf[0..16]` (R26; 20_memory.md R41). -/
  buf : Payload
  /-- The output register's `out_valid` (R34; 30_encoding.md R90). -/
  outValid : Bool
  /-- The output event register (R34; 30_encoding.md R91). -/
  outReg : OutEvent
  /-- MODEL: the input ports at the coming rising edges, the next first. Log entry 2. -/
  inputs : List Pins
  /-- MODEL: the output stream `emit` appends to (00_scope.md R8, R14). Log entry 3. -/
  emitted : List OutEvent
  /-- MODEL: the events the consumer has taken, oldest first (30_encoding.md R91). Log entry 3. -/
  taken : List OutEvent
  /-- MODEL: which draw of the free values the next reset edge makes. Log entry 7. -/
  epoch : Nat
deriving DecidableEq, Repr

/-- Why the machine stops with a fault. The block itself never does (00_scope.md R9, 60_exceptions.md R200): the
one constructor stands for states no run reaches. -/
inductive Fault where
  /-- Raised by `step` for a byte in `PayloadExpected` with `st.cnt` above 16: it would be written to a buffer byte
  that does not exist (20_memory.md R41 has indices 0..16). Safe: no state reachable from reset has such a count
  (10_state.md R21, R27). DEDUCED, log entry 9. -/
  | noSuchBufferByte (cnt : BitVec 5)
deriving DecidableEq, Repr

/-- Why an instruction is refused. `step` gives none of these in a state that meets the invariant. -/
inductive Refusal where
  /-- Raised by an arm of `exec` that has no meaning yet; no arm is one. Safe. -/
  | notModelled (mnemonic : String)
  /-- Raised by every meaning asked to run while the output register holds an event: `in_ready` is 0 then and no
  transfer happens (30_encoding.md R91). `step` never asks it. Safe. DEDUCED, log entry 10. -/
  | outputHeld
  /-- Raised by every meaning asked to run in a sequencer state, or under a parameter, in which the table's row does
  not apply (30_encoding.md R75; 40_synchronizer.md R110): there the same byte is another class. `step` never asks
  it. Safe. DEDUCED, log entry 10. -/
  | outsideItsState
deriving DecidableEq, Repr

/-- The machine right after reset (10_state.md R34; 70_reset_and_hazards.md R230). `buf` and `outReg`, which the spec
leaves unspecified, are all zero: DESIGN CHOICE, unsafe, log entries 5 and 6. `mark141` is its default (R11). -/
def State.reset : State where
  mark141 := .distinctEnd
  sync := .awaitingSync
  src := .live
  rc := 0
  cnt := 0
  buf := Vector.replicate 17 0
  outValid := false
  outReg := .record
    { source := .live, yy := 0, month := 0, day := 0, hour := 0, minute := 0, second := 0, dbTenths := 0, flags := 0,
      unknownBits := 0, rangeLow := 0, rangeHigh := 0 }
  inputs := []
  emitted := []
  taken := []
  epoch := 0

end Sys2Proof.Machine
end

