-- ==== Sys2Proof/Machine/Ops.lean ====
section
/-! DEFINITION. The named operations over the state, shared by every meaning: the sequencer, the payload buffer, the
output register, reset, and `transact`, which runs one transfer where its row applies. The block has no trap
(60_exceptions.md R200); its counterpart of taking an exception is `emit`, and of returning from one `resync`
(R208, R209). -/

namespace Sys2Proof.Machine

/-- `emit(E)`: the event is appended to the output stream and loaded into the output register
(00_scope.md R14; 30_encoding.md R91). -/
def State.emit (ev : OutEvent) (s : State) : State :=
  { s with outReg := ev, outValid := true, emitted := s.emitted ++ [ev] }

/-- Start of a frame: to `PayloadExpected`, with the source and the range code latched and no payload byte captured
(40_synchronizer.md R101, R102; 10_state.md R23, R24). -/
def State.latchFrame (kind : Source) (range : BitVec 3) (s : State) : State :=
  { s with sync := .payloadExpected, src := kind, rc := range, cnt := 0 }

/-- `buf[st.cnt] <- b`, the one write of the payload buffer (20_memory.md R41). -/
def State.writeBuf (b : Byte) (s : State) : State :=
  { s with buf := s.buf.setIfInBounds s.cnt.toNat b }

/-- `st.cnt <- k + 1` (41_payload_decoder.md R130). -/
def State.countByte (s : State) : State := { s with cnt := s.cnt + 1 }

/-- Back to `AwaitingSync` with no payload byte counted; `src`, `rc` and `buf` keep their values
(41_payload_decoder.md R131; 40_synchronizer.md R112). -/
def State.resync (s : State) : State := { s with sync := .awaitingSync, cnt := 0 }

/-- The event an abort reports, from the state before it (40_synchronizer.md R112; 30_encoding.md R84). -/
def State.abortEvent (s : State) : OutEvent :=
  match s.sync with
  | .awaitingSync => .transport .sync 0
  | .payloadExpected => .transport .payload s.cnt

/-- One rising edge with `rst = 1` (70_reset_and_hazards.md R230): the fields of 10_state.md R34 at their reset values, a
held event discarded, nothing emitted and nothing taken. `buf` and the output event register, which the spec leaves
unspecified, take free values of draw `epoch` (log entry 7). -/
def State.resetEdge (s : State) : State :=
  { s with
    sync := .awaitingSync, src := .live, rc := 0, cnt := 0
    buf := Vector.ofFn fun i => Config.freeByte s.epoch i.val
    outValid := false, outReg := Config.freeEvent s.epoch }

/-- The held event leaves the output register to the consumer (30_encoding.md R91). The register keeps its bits, which
no port shows (log entry 8). -/
def State.takeEvent (s : State) : State := { s with outValid := false, taken := s.taken ++ [s.outReg] }

/-- Run one transfer of class `i`: it happens only while no event is held (30_encoding.md R91) and only where the row of
the class applies (R75); its effect is `effect`. Log entry 10. -/
def transact (i : Instr) (effect : State → State) (s : State) : Host.Outcome State Fault Refusal :=
  if s.outValid then .refused .outputHeld
  else if i.appliesIn s.mark141 s.sync s.cnt then .next (effect s)
  else .refused .outsideItsState

end Sys2Proof.Machine
end

