-- ==== Sys2Proof/Machine/Capture.lean ====
section
/-! DEFINITION. The meanings of the payload transfers (41_payload_decoder.md R130, R131). -/

namespace Sys2Proof.Machine

/-- PAYLOAD_BYTE: byte `k = st.cnt` of the payload, whatever its value, is captured and counted; no event (R130). -/
def execPayloadByte (b : Byte) (s : State) : Host.Outcome State Fault Refusal :=
  transact (.payloadByte b) (fun s => (s.writeBuf b).countByte) s

/-- The 17 bytes the decode of the last payload byte reads: the buffer, with this step's own byte as byte 16
(R131; 20_memory.md R41). -/
def State.framePayload (b : Byte) (s : State) : Payload := (s.writeBuf b).buf

/-- PAYLOAD_LAST: byte 16 completes the frame, which is decoded; the event is RECORD or DECODE_ERROR, and the block
returns to `AwaitingSync` either way (R131). -/
def execPayloadLast (b : Byte) (s : State) : Host.Outcome State Fault Refusal :=
  transact (.payloadLast b) (fun s => ((s.writeBuf b).resync).emit (decodeEvent (s.framePayload b) s.src s.rc)) s

end Sys2Proof.Machine
end

