-- ==== Sys2Proof/Machine/Markers.lean ====
section
/-! DEFINITION. The meanings of the marker transfers (40_synchronizer.md R101 to R108). -/

namespace Sys2Proof.Machine

/-- NEEDMORE: the byte is discarded; the state is unchanged and no event is emitted (R103). -/
def execNeedmore (b : Byte) (s : State) : Host.Outcome State Fault Refusal :=
  transact (.needmore b) (fun s => s) s

/-- FRAME_PRE_R0, byte 0x80: start of a pre-recorded frame with range code 0; no event (R101). -/
def execFramePreR0 (s : State) : Host.Outcome State Fault Refusal :=
  transact .framePreR0 (State.latchFrame .preRecorded 0) s

/-- FRAME_PRE_R1, byte 0x81: start of a pre-recorded frame with range code 1; no event (R101). -/
def execFramePreR1 (s : State) : Host.Outcome State Fault Refusal :=
  transact .framePreR1 (State.latchFrame .preRecorded 1) s

/-- FRAME_PRE_R2, byte 0x82: start of a pre-recorded frame with range code 2; no event (R101). -/
def execFramePreR2 (s : State) : Host.Outcome State Fault Refusal :=
  transact .framePreR2 (State.latchFrame .preRecorded 2) s

/-- FRAME_PRE_R3, byte 0x83: start of a pre-recorded frame with range code 3; no event (R101). -/
def execFramePreR3 (s : State) : Host.Outcome State Fault Refusal :=
  transact .framePreR3 (State.latchFrame .preRecorded 3) s

/-- FRAME_PRE_R4, byte 0x84: start of a pre-recorded frame with range code 4; no event (R101). -/
def execFramePreR4 (s : State) : Host.Outcome State Fault Refusal :=
  transact .framePreR4 (State.latchFrame .preRecorded 4) s

/-- FRAME_PRE_R5, byte 0x85: start of a pre-recorded frame with range code 5; no event (R101). -/
def execFramePreR5 (s : State) : Host.Outcome State Fault Refusal :=
  transact .framePreR5 (State.latchFrame .preRecorded 5) s

/-- FRAME_PRE_R6, byte 0x86: start of a pre-recorded frame with range code 6; no event (R101). -/
def execFramePreR6 (s : State) : Host.Outcome State Fault Refusal :=
  transact .framePreR6 (State.latchFrame .preRecorded 6) s

/-- FRAME_LIVE_R0, byte 0xA0: start of a live frame with range code 0; no event (R102). -/
def execFrameLiveR0 (s : State) : Host.Outcome State Fault Refusal :=
  transact .frameLiveR0 (State.latchFrame .live 0) s

/-- FRAME_LIVE_R1, byte 0xA1: start of a live frame with range code 1; no event (R102). -/
def execFrameLiveR1 (s : State) : Host.Outcome State Fault Refusal :=
  transact .frameLiveR1 (State.latchFrame .live 1) s

/-- FRAME_LIVE_R2, byte 0xA2: start of a live frame with range code 2; no event (R102). -/
def execFrameLiveR2 (s : State) : Host.Outcome State Fault Refusal :=
  transact .frameLiveR2 (State.latchFrame .live 2) s

/-- FRAME_LIVE_R3, byte 0xA3: start of a live frame with range code 3; no event (R102). -/
def execFrameLiveR3 (s : State) : Host.Outcome State Fault Refusal :=
  transact .frameLiveR3 (State.latchFrame .live 3) s

/-- FRAME_LIVE_R4, byte 0xA4: start of a live frame with range code 4; no event (R102). -/
def execFrameLiveR4 (s : State) : Host.Outcome State Fault Refusal :=
  transact .frameLiveR4 (State.latchFrame .live 4) s

/-- FRAME_LIVE_R5, byte 0xA5: start of a live frame with range code 5; no event (R102). -/
def execFrameLiveR5 (s : State) : Host.Outcome State Fault Refusal :=
  transact .frameLiveR5 (State.latchFrame .live 5) s

/-- FRAME_LIVE_R6, byte 0xA6: start of a live frame with range code 6; no event (R102). -/
def execFrameLiveR6 (s : State) : Host.Outcome State Fault Refusal :=
  transact .frameLiveR6 (State.latchFrame .live 6) s

/-- END, byte 0x90: the event END_MARKER(0x90); the state is unchanged (R105). -/
def execEndMarker (s : State) : Host.Outcome State Fault Refusal :=
  transact .endMarker (State.emit (.endMarker 0x90)) s

/-- END_UNCONF, byte 0x8D with `P_MARK141 = DistinctEnd`: the event END_UNCONFIRMED(0x8D); the state is
unchanged (R106). -/
def execEndUnconf (s : State) : Host.Outcome State Fault Refusal :=
  transact .endUnconf (State.emit (.endUnconfirmed 0x8D)) s

/-- UNKNOWN: the event UNKNOWN_MARKER(b); the state is unchanged (R108). -/
def execUnknown (b : Byte) (s : State) : Host.Outcome State Fault Refusal :=
  transact (.unknown b) (State.emit (.unknownMarker b)) s

end Sys2Proof.Machine
end

