-- ==== Sys2Proof/Machine/Transport.lean ====
section
/-! DEFINITION. The meaning of the transport abort (40_synchronizer.md R112). -/

namespace Sys2Proof.Machine

/-- ABORT: the event TRANSPORT with the phase and the count of payload bytes received before it; the partial payload is
discarded and the block returns to `AwaitingSync` (R112). -/
def execAbort (s : State) : Host.Outcome State Fault Refusal :=
  transact .abort (fun s => (s.resync).emit s.abortEvent) s

end Sys2Proof.Machine
end

