-- ==== Sys2Proof/Machine/Dispatch.lean ====
section
/-! DEFINITION. The dispatch: one arm for each transfer class, one direct call of its meaning. -/

namespace Sys2Proof.Machine

-- The meaning of one transfer of a class, in a state that is about to accept it.
def exec (i : Instr) (s : State) : Host.Outcome State Fault Refusal :=
  match i with
  | .needmore b => Sys2Proof.Machine.execNeedmore b s
  | .framePreR0 => Sys2Proof.Machine.execFramePreR0 s
  | .framePreR1 => Sys2Proof.Machine.execFramePreR1 s
  | .framePreR2 => Sys2Proof.Machine.execFramePreR2 s
  | .framePreR3 => Sys2Proof.Machine.execFramePreR3 s
  | .framePreR4 => Sys2Proof.Machine.execFramePreR4 s
  | .framePreR5 => Sys2Proof.Machine.execFramePreR5 s
  | .framePreR6 => Sys2Proof.Machine.execFramePreR6 s
  | .frameLiveR0 => Sys2Proof.Machine.execFrameLiveR0 s
  | .frameLiveR1 => Sys2Proof.Machine.execFrameLiveR1 s
  | .frameLiveR2 => Sys2Proof.Machine.execFrameLiveR2 s
  | .frameLiveR3 => Sys2Proof.Machine.execFrameLiveR3 s
  | .frameLiveR4 => Sys2Proof.Machine.execFrameLiveR4 s
  | .frameLiveR5 => Sys2Proof.Machine.execFrameLiveR5 s
  | .frameLiveR6 => Sys2Proof.Machine.execFrameLiveR6 s
  | .endMarker => Sys2Proof.Machine.execEndMarker s
  | .endUnconf => Sys2Proof.Machine.execEndUnconf s
  | .unknown b => Sys2Proof.Machine.execUnknown b s
  | .payloadByte b => Sys2Proof.Machine.execPayloadByte b s
  | .payloadLast b => Sys2Proof.Machine.execPayloadLast b s
  | .abort => Sys2Proof.Machine.execAbort s

end Sys2Proof.Machine
end

