-- ==== Sys2Proof/Machine/Ports.lean ====
section
/-! DEFINITION. The output ports as views of the state (30_encoding.md R80 to R84, R90 to R92). -/

namespace Sys2Proof.Machine

/-- `in_ready = (not out_valid) and (not rst)` (30_encoding.md R91). -/
def State.inReady (rst : Bool) (s : State) : Bool := !s.outValid && !rst

/-- The port code of a source: 0 Live, 1 PreRecorded (R81, R90). -/
def sourceCode (src : Source) : BitVec 1 := BitVec.ofBool (sourceBit src)

/-- `out_err`: 1 InvalidDigit, 2 InvalidTimestamp, 3 InvalidRange; 0 is never a decode error's code (R83). -/
def errCode : DecodeErr → BitVec 2
  | .invalidDigit => 1
  | .invalidTimestamp => 2
  | .invalidRange => 3

/-- `out_phase`: 0 Sync, 1 Payload (R84). -/
def phaseCode : Phase → BitVec 1
  | .sync => 0
  | .payload => 1

/-- `st_sync`: 0 AwaitingSync, 1 PayloadExpected (10_state.md R20). -/
def syncCode : Sync → BitVec 1
  | .awaitingSync => 0
  | .payloadExpected => 1

/-- `out_tag` (R82). No event has tag 6 or 7. -/
def eventTag : OutEvent → BitVec 3
  | .record _ => 0
  | .decodeError _ _ => 1
  | .unknownMarker _ => 2
  | .endMarker _ => 3
  | .endUnconfirmed _ => 4
  | .transport _ _ => 5

/-- The `out_*` and `rec_*` ports less `out_valid` (R90). A field a tag does not list is driven to 0 (D25). -/
structure EventPorts where
  outTag : BitVec 3 := 0
  outSrc : BitVec 1 := 0
  outErr : BitVec 2 := 0
  outByte : BitVec 8 := 0
  outPhase : BitVec 1 := 0
  outCount : BitVec 5 := 0
  recYy : BitVec 7 := 0
  recMonth : BitVec 4 := 0
  recDay : BitVec 5 := 0
  recHour : BitVec 5 := 0
  recMin : BitVec 6 := 0
  recSec : BitVec 6 := 0
  recDb : BitVec 14 := 0
  recFlags : BitVec 7 := 0
  recUnknown : BitVec 8 := 0
  recRlow : BitVec 8 := 0
  recRhigh : BitVec 8 := 0
deriving DecidableEq, Repr

/-- The ports while an event is held, by its tag (R90). -/
def eventPorts (ev : OutEvent) : EventPorts :=
  match ev with
  | .record r =>
    { outTag := eventTag ev, outSrc := sourceCode r.source, recYy := r.yy, recMonth := r.month, recDay := r.day,
      recHour := r.hour, recMin := r.minute, recSec := r.second, recDb := r.dbTenths, recFlags := r.flags,
      recUnknown := r.unknownBits, recRlow := r.rangeLow, recRhigh := r.rangeHigh }
  | .decodeError src code => { outTag := eventTag ev, outSrc := sourceCode src, outErr := errCode code }
  | .unknownMarker b => { outTag := eventTag ev, outByte := b }
  | .endMarker b => { outTag := eventTag ev, outByte := b }
  | .endUnconfirmed b => { outTag := eventTag ev, outByte := b }
  | .transport phase count => { outTag := eventTag ev, outPhase := phaseCode phase, outCount := count }

/-- Every output port (R90). -/
structure OutPorts where
  inReady : Bool
  outValid : Bool
  event : EventPorts
  stSync : BitVec 1
  stCnt : BitVec 5
  stSrc : BitVec 1
  stRc : BitVec 3
deriving DecidableEq, Repr

/-- The output ports of a state while the reset port is `rst`: the held event's fields, all 0 while none is held (R90),
and the status port, which shows the sequencer at all times (R92). -/
def State.ports (rst : Bool) (s : State) : OutPorts where
  inReady := s.inReady rst
  outValid := s.outValid
  event := if s.outValid then eventPorts s.outReg else { }
  stSync := syncCode s.sync
  stCnt := s.cnt
  stSrc := sourceCode s.src
  stRc := s.rc

end Sys2Proof.Machine
end

