-- ==== Sys2Proof/Machine/Edge.lean ====
section
/-! DEFINITION. One rising edge of `clk`: what it does before any transfer class is known (30_encoding.md R90, R91;
70_reset_and_hazards.md R230, R231), which transfer it accepts, and how a transfer is offered. -/

namespace Sys2Proof.Machine

/-- What an edge is: without a transfer (then the state after it), or accepting one (then the transfer and the state its
class runs in). -/
inductive Edge where
  | quiet (after : State)
  | transfer (e : InEvent) (before : State)
deriving DecidableEq, Repr

/-- The transfer the input ports offer (30_encoding.md R90): `in_abort` selects which kind it is, and with it `in_data` is
ignored. -/
def Pins.transfer (p : Pins) : InEvent := if p.inAbort then .abort else .byte p.inData

/-- The state after one edge with `rst = 0`, as far as the model's own record of the outside goes: its sample is
used up and the next reset draws fresh free values (log entries 2 and 7). -/
def State.afterSample (rest : List Pins) (s : State) : State := { s with inputs := rest, epoch := s.epoch + 1 }

/-- The next edge. Reset comes before anything (R231). While an event is held no transfer is accepted, and the event
leaves if the consumer is ready (30_encoding.md R91). Otherwise an offered transfer is accepted. Where nothing is
offered, or no sample is left, the block holds its state (20_memory.md R55; 60_exceptions.md R216; log entry 2). -/
def State.edge (s : State) : Edge :=
  match s.inputs with
  | [] => .quiet s
  | p :: rest =>
    if p.rst then .quiet { s.resetEdge with inputs := rest }
    else if s.outValid then
      .quiet (if p.outReady then (s.afterSample rest).takeEvent else s.afterSample rest)
    else if p.inValid then .transfer p.transfer (s.afterSample rest)
    else .quiet (s.afterSample rest)

/-- The ports that offer a transfer, with the consumer not ready. -/
def Pins.offer (e : InEvent) : Pins :=
  match e with
  | .byte b => { rst := false, inValid := true, inAbort := false, inData := b, outReady := false }
  | .abort => { rst := false, inValid := true, inAbort := true, inData := 0, outReady := false }

/-- The state in which the very next edge accepts the transfer: it is offered first, and no event is held (log
entry 12). -/
def State.offer (e : InEvent) (s : State) : State := { s with inputs := Pins.offer e :: s.inputs, outValid := false }

end Sys2Proof.Machine
end

