-- ==== Sys2Proof/Machine/Step.lean ====
section
/-! DEFINITION. The step: one rising edge of `clk` (00_scope.md R8; 30_encoding.md R91; log entry 1). -/

namespace Sys2Proof.Machine

/-- One edge: a transfer it accepts runs as the class the decoder reads from it (40_synchronizer.md R110). A payload count
no run reaches has no class: the fault of log entry 9. -/
def step (s : State) : Host.Outcome State Fault Refusal :=
  match s.edge with
  | .quiet after => .next after
  | .transfer e before =>
    match decode before.mark141 before.sync before.cnt e with
    | some i => exec i before
    | none => .fault (.noSuchBufferByte before.cnt)

/-- The state in which the next step accepts the transfer whose port word is `w` (log entries 11 and 12). -/
def State.withFetchWord (s : State) (nbits w : Nat) : State := s.offer (InEvent.ofWord (w % 2 ^ nbits))

end Sys2Proof.Machine
end

