-- ==== Sys2Proof/Machine/Transaction.lean ====
section
/-! DEFINITION. The transaction-level semantics, the normative one (00_scope.md R8; 40_synchronizer.md R110), as a function
of its own, apart from the ports and from `exec`. The port-level step is stated to agree with it. -/

namespace Sys2Proof.Machine

/-- The transaction-level state, and nothing else (10_state.md R20). -/
structure Block where
  sync : Sync
  src : Source
  rc : BitVec 3
  cnt : BitVec 5
  buf : Payload
deriving DecidableEq, Repr

/-- The transaction-level part of the state. -/
def State.block (s : State) : Block := { sync := s.sync, src := s.src, rc := s.rc, cnt := s.cnt, buf := s.buf }

/-- A reset block with the given buffer contents, which the spec leaves unspecified (10_state.md R34). -/
def Block.afterReset (buf : Payload) : Block := { sync := .awaitingSync, src := .live, rc := 0, cnt := 0, buf }

/-- `step : State × InEvent -> State × Option OutEvent` (00_scope.md R8), the pseudocode of R100 to R112, R130 and R131.
Its domain has `cnt` in 0..16; that a payload byte at a larger count is taken as the last is a DESIGN CHOICE (log entry 18). -/
def Block.step (m : Mark141) (st : Block) (e : InEvent) : Block × Option OutEvent :=
  match e with
  | .abort =>
    ({ st with sync := .awaitingSync, cnt := 0 },
      some (if st.sync = .awaitingSync then .transport .sync 0 else .transport .payload st.cnt))
  | .byte b =>
    if st.sync = .payloadExpected then
      if st.cnt.toNat < 16 then
        ({ st with buf := st.buf.setIfInBounds st.cnt.toNat b, cnt := st.cnt + 1 }, none)
      else
        let p := st.buf.setIfInBounds 16 b
        ({ st with buf := p, sync := .awaitingSync, cnt := 0 },
          some (match decodePayload p st.src st.rc with
            | .ok r => .record r
            | .err code => .decodeError st.src code))
    else
      match classify m b with
      | .needMore => (st, none)
      | .frame kind r => ({ st with sync := .payloadExpected, src := kind, rc := r, cnt := 0 }, none)
      | .endMarker => (st, some (.endMarker 0x90))
      | .endMarkerUnconfirmed => (st, some (.endUnconfirmed 0x8D))
      | .unknownMarker c => (st, some (.unknownMarker c))

/-- A token of the stream notation: a transfer, or one reset (30_encoding.md R93). -/
inductive Token where
  | transfer (e : InEvent)
  | reset
deriving DecidableEq, Repr

/-- One token: a reset sets the reset state and emits nothing (70_reset_and_hazards.md R230). The buffer contents it leaves
are unspecified; here they stay, and no statement rests on them. -/
def Block.token (m : Mark141) (st : Block) (t : Token) : Block × Option OutEvent :=
  match t with
  | .transfer e => st.step m e
  | .reset => (Block.afterReset st.buf, none)

/-- A run: the fold of the step over the tokens, with the events in order (R8). -/
def Block.run (m : Mark141) (st : Block) : List Token → Block × List OutEvent
  | [] => (st, [])
  | t :: ts =>
    let (st', ev) := st.token m t
    let (last, evs) := Block.run m st' ts
    (last, ev.toList ++ evs)

end Sys2Proof.Machine
end

