-- ==== Sys2Proof/Machine/Stream.lean ====
section
/-! DEFINITION. The stream notation (30_encoding.md R93): tokens, the three pseudo-transfers, and tokens as samples of the
input ports. -/

namespace Sys2Proof.Machine

/-- `hh`: the transfer Byte(0xhh). -/
def Token.byte (b : Byte) : Token := .transfer (.byte b)

/-- `ABORT`. -/
def Token.abort : Token := .transfer .abort

/-- The marker byte of a frame: `A0+r` or `80+r` (R93), for r in 0..6; for r = 7 it is a DESIGN CHOICE
(log entry 18). -/
def frameMarker (kind : Source) (r : BitVec 3) : Byte :=
  match kind with
  | .live => Config.liveBase + r.setWidth 8
  | .preRecorded => Config.preBase + r.setWidth 8

/-- `LIVE(r; p0 .. p16)` and `PRE(r; p0 .. p16)`: the marker and the 17 payload bytes (R93). -/
def Token.frame (kind : Source) (r : BitVec 3) (p : Payload) : List Token :=
  Token.byte (frameMarker kind r) :: p.toList.map Token.byte

/-- `END`: the byte 0x90 (R93). -/
def Token.endMarker : Token := Token.byte Config.endByte

/-- The samples that play a token: a reset is one edge; a transfer is one edge that offers it and one at which the consumer
is ready for the event it may have caused, so that the next token finds the output register empty (R91, R250). -/
def Token.pins (t : Token) : List Pins :=
  match t with
  | .reset => [{ rst := true, inValid := false, inAbort := false, inData := 0, outReady := false }]
  | .transfer e =>
    [Pins.offer e, { rst := false, inValid := false, inAbort := false, inData := 0, outReady := true }]

/-- A program of tokens as the coming samples of the input ports. -/
def State.drive (ts : List Token) (s : State) : State := { s with inputs := ts.flatMap Token.pins }

end Sys2Proof.Machine
end

