-- ==== Sys2Proof/Safety.lean ====
section
/-! DEFINITION. What counts as a good state and a safe run: the invariant of 10_state.md R27, the events the block may
report, the observer's view of R28, what a run means at transaction level, and the duties of the outside. -/

namespace Sys2Proof.Machine

/-- Every field of a record is in the range of 30_encoding.md R81 (41_payload_decoder.md R151). -/
def recordInRange (r : MeasurementRecord) : Bool :=
  decide (r.yy.toNat ≤ 99) && decide (1 ≤ r.month.toNat) && decide (r.month.toNat ≤ 12) &&
  decide (1 ≤ r.day.toNat) && decide (r.day.toNat ≤ 31) && decide (r.hour.toNat ≤ 23) &&
  decide (r.minute.toNat ≤ 59) && decide (r.second.toNat ≤ 59) && decide (r.dbTenths.toNat ≤ 9999) &&
  (r.unknownBits == 0x00#8 || r.unknownBits == 0x80#8) && rangeTable.contains (r.rangeLow, r.rangeHigh)

/-- An event the block may report under the parameter: a record in range; a decode error that is not InvalidRange, which no
input can cause (41_payload_decoder.md R141); marker events with bytes of their class (30_encoding.md R80); a transport event
with a count of R84. -/
def eventAllowed (m : Mark141) : OutEvent → Bool
  | .record r => recordInRange r
  | .decodeError _ code => code != .invalidRange
  | .unknownMarker b => classify m b == .unknownMarker b
  | .endMarker b => b == 0x90#8
  | .endUnconfirmed b => b == 0x8D#8 && m == .distinctEnd
  | .transport .sync count => count == 0#5
  | .transport .payload count => decide (count.toNat ≤ 16)

/-- The invariant of every reachable state: (I-a) and (I-b) of 10_state.md R27, the bound of R21 on `st.cnt`, and only
allowed events held or emitted. (I-c) is stated over runs. -/
abbrev State.Inv (s : State) : Prop :=
  (s.sync = .awaitingSync → s.cnt = 0) ∧ (s.sync = .payloadExpected → s.rc.toNat ≤ 6) ∧ s.cnt.toNat ≤ 16 ∧
  (s.outValid = true → eventAllowed s.mark141 s.outReg = true) ∧
  (∀ ev ∈ s.emitted, eventAllowed s.mark141 ev = true)

/-- The events in the output register: at most one (30_encoding.md R91). -/
def State.held (s : State) : List OutEvent := if s.outValid then [s.outReg] else []

/-- Every event emitted has been taken or is held, once and in order (30_encoding.md R91). -/
abbrev State.Conserved (s : State) : Prop := s.emitted = s.taken ++ s.held

/-- Two states no output event can tell apart (10_state.md R28): they agree on everything but `src`, `rc` and `buf` while
awaiting sync, buffer bytes the current frame has not delivered, the bits of an empty output register, and the draw of the
free values. -/
def State.Alike (s t : State) : Prop :=
  s.mark141 = t.mark141 ∧ s.sync = t.sync ∧ s.cnt = t.cnt ∧ s.outValid = t.outValid ∧ s.inputs = t.inputs ∧
  s.emitted = t.emitted ∧ s.taken = t.taken ∧ (s.outValid = true → s.outReg = t.outReg) ∧
  (s.sync = .payloadExpected → s.src = t.src ∧ s.rc = t.rc ∧ ∀ i : Fin 17, i.val < s.cnt.toNat → s.buf[i] = t.buf[i])

/-- Two transaction-level states that agree on everything but buffer bytes not yet delivered. -/
def Block.Agrees (a b : Block) : Prop :=
  a.sync = b.sync ∧ a.src = b.src ∧ a.rc = b.rc ∧ a.cnt = b.cnt ∧ ∀ i : Fin 17, i.val < a.cnt.toNat → a.buf[i] = b.buf[i]

/-- What the next edge is at transaction level: a reset, an accepted transfer, or nothing. -/
def State.tokens (s : State) : List Token :=
  match s.inputs with
  | [] => []
  | p :: _ =>
    if p.rst then [.reset]
    else match s.edge with
      | .transfer e _ => [.transfer e]
      | .quiet _ => []

/-- The tokens of the next `n` edges. -/
def runTokens : Nat → State → List Token
  | 0, _ => []
  | n + 1, s =>
    s.tokens ++ match step s with
      | .next s' => runTokens n s'
      | _ => []

/-- The report of byte 0x8D under `P_MARK141 = Unknown` in place of the one under `DistinctEnd` (00_scope.md R11). -/
def renameMark141 : OutEvent → OutEvent
  | .endUnconfirmed b => .unknownMarker b
  | ev => ev

/-- The same state under the two values of `P_MARK141`, the events of the second renamed (00_scope.md R11). -/
def State.Mark141Twins (s t : State) : Prop :=
  s.mark141 = .distinctEnd ∧ t.mark141 = .unknown ∧ t.block = s.block ∧ t.outValid = s.outValid ∧
  t.inputs = s.inputs ∧ t.epoch = s.epoch ∧ t.emitted = s.emitted.map renameMark141 ∧
  t.taken = s.taken.map renameMark141 ∧ (s.outValid = true → t.outReg = renameMark141 s.outReg)

/-- The transport offers this transfer at the next edge (30_encoding.md R90). -/
def State.Offers (e : InEvent) (s : State) : Prop :=
  ∃ p rest, s.inputs = p :: rest ∧ p.inValid = true ∧ p.transfer = e

/-- At the next edge the block is not ready: an event is held or reset is asserted (30_encoding.md R91). -/
def State.Stalls (s : State) : Prop := ∃ p rest, s.inputs = p :: rest ∧ s.inReady p.rst = false

/-- The transport's duty at the next edge (30_encoding.md R91): a transfer offered while `in_ready = 0` is offered again,
unchanged, at the edge after. The model does not enforce it (log entry 13). -/
def State.TransportHolds (s : State) : Prop :=
  ∀ p rest, s.inputs = p :: rest → p.inValid = true → s.inReady p.rst = false →
    ∃ q rest', rest = q :: rest' ∧ q.inValid = true ∧ q.inAbort = p.inAbort ∧ q.inData = p.inData

end Sys2Proof.Machine
end

