-- ==== Sys2Proof/Certificates/Slice0/Obligations.lean ====
section
/-! DEFINITION. The statements for the provers. Each docstring names the rules of spec/ it formalises; `R27`, `R28` and the
like are statements the spec marks as derived, and say so. -/

open Sys2Proof Sys2Proof.Machine

/-! ## Encoding and decoding -/

/-- Decoding the encoding of a well-formed class gives it back, in every sequencer state in which its row applies and under
both values of `P_MARK141`; through the transfer itself and through its port word (the word's numbering is the model's, log
entry 11). Derived from 30_encoding.md R61, R65, R75. -/
def Obligations.EncodeThenDecodeIsIdentity : Prop :=
  ∀ (m : Mark141) (sync : Sync) (cnt : BitVec 5) (i : Instr),
    i.wf m = true → i.appliesIn m sync cnt = true →
      decode m sync cnt (encode i) = some i ∧ decode m sync cnt (InEvent.ofWord (encodeWord i)) = some i

/-- The other direction: whatever the decoder reads is well formed, applies in the state it was read in, and encodes to the
transfer it was read from; and a transfer has a class exactly where it is an abort, sync is awaited, or the payload count is at
most 16. Derived from 30_encoding.md R61, R75 and 40_synchronizer.md R110. That a byte in `PayloadExpected` with a count above
16 has no class is the model's, log entry 9 (DEDUCED): R110 itself sends every byte with `st.sync` = 1 to the payload, and 10_state.md
R20 gives `st.cnt` the values 0 to 16 only. -/
def Obligations.DecodedClassIsWellFormedAndTotal : Prop :=
  ∀ (m : Mark141) (sync : Sync) (cnt : BitVec 5) (e : InEvent),
    (∀ i, decode m sync cnt e = some i → i.wf m = true ∧ i.appliesIn m sync cnt = true ∧ encode i = e) ∧
      ((decode m sync cnt e).isSome = true ↔ (e = .abort ∨ sync = .awaitingSync ∨ cnt.toNat ≤ 16))

/-- The decoder is the opcode map read as 30_encoding.md R75 (which the spec marks as derived) says: of the rows that match in
the sequencer state, the lowest-numbered priority wins, and it is one row. -/
def Obligations.DecodeFollowsOpcodeTablePriority : Prop :=
  ∀ (m : Mark141) (sync : Sync) (cnt : BitVec 5) (e : InEvent), (sync = .payloadExpected → cnt.toNat ≤ 16) →
    ∃ r ∈ opcodeTable, r.selects m sync cnt e = true ∧ decode m sync cnt e = some (r.instr e) ∧
      ∀ r' ∈ opcodeTable, r'.selects m sync cnt e = true →
        r.priority ≤ r'.priority ∧ (r'.priority = r.priority → r'.mnemonic = r.mnemonic)

/-- The marker table of 30_encoding.md R61: what each byte value is classified as under each value of `P_MARK141`, and the
counts of the classes. -/
def Obligations.ByteClassesAwaitingSync : Prop :=
  (∀ (m : Mark141) (b : Byte),
    (b.toNat ≤ 0x7F → classify m b = .needMore) ∧
    (0x80 ≤ b.toNat ∧ b.toNat ≤ 0x86 → classify m b = .frame .preRecorded (BitVec.ofNat 3 (b.toNat - 128))) ∧
    (0xA0 ≤ b.toNat ∧ b.toNat ≤ 0xA6 → classify m b = .frame .live (BitVec.ofNat 3 (b.toNat - 160))) ∧
    (b.toNat = 0x90 → classify m b = .endMarker) ∧
    (b.toNat = 0x8D → classify m b = match m with
      | .distinctEnd => .endMarkerUnconfirmed
      | .unknown => .unknownMarker b) ∧
    ((0x87 ≤ b.toNat ∧ b.toNat ≤ 0x8C) ∨ (0x8E ≤ b.toNat ∧ b.toNat ≤ 0x8F) ∨
      (0x91 ≤ b.toNat ∧ b.toNat ≤ 0x9F) ∨ 0xA7 ≤ b.toNat → classify m b = .unknownMarker b)) ∧
  (let bytes := (List.range 256).map (BitVec.ofNat 8)
   let count (m : Mark141) (q : SyncResult → Bool) : Nat := bytes.countP fun b => q (classify m b)
   let unknown (r : SyncResult) : Bool := match r with | .unknownMarker _ => true | _ => false
   let frame (kind : Source) (r : SyncResult) : Bool := match r with | .frame k _ => k == kind | _ => false
   count .distinctEnd (· == .needMore) = 128 ∧ count .distinctEnd (frame .preRecorded) = 7 ∧
     count .distinctEnd (· == .endMarkerUnconfirmed) = 1 ∧ count .distinctEnd (· == .endMarker) = 1 ∧
     count .distinctEnd (frame .live) = 7 ∧ count .distinctEnd unknown = 112 ∧ count .unknown unknown = 113)

/-- The fields of a frame marker's byte (30_encoding.md R62, R63, R64, which the spec marks as derived): the fixed bits, the
range code in bits 2..0, and the source in bit 5 inverted. -/
def Obligations.FrameMarkerBitFields : Prop :=
  ∀ (m : Mark141) (b : Byte) (kind : Source) (rc : BitVec 3),
    classify m b = .frame kind rc ↔
      b.getLsbD 7 = true ∧ b.getLsbD 6 = false ∧ b.getLsbD 5 = (kind == .live) ∧ b.getLsbD 4 = false ∧
        b.getLsbD 3 = false ∧ b.extractLsb' 0 3 = rc ∧ rc ≠ 7

/-- A few transfers written out from the encoding column of spec/opcode_table.json decode to the classes they stand for; a
marker value inside a payload is a payload byte. -/
def Obligations.WordsOfTheTableDecode : Prop :=
  decode .distinctEnd .awaitingSync 0 (.byte 0b01111111) = some (.needmore 0x7F) ∧
  decode .distinctEnd .awaitingSync 0 (.byte 0b10000011) = some .framePreR3 ∧
  decode .distinctEnd .awaitingSync 0 (.byte 0b10100110) = some .frameLiveR6 ∧
  decode .distinctEnd .awaitingSync 0 (.byte 0b10010000) = some .endMarker ∧
  decode .distinctEnd .awaitingSync 0 (.byte 0b10001101) = some .endUnconf ∧
  decode .unknown .awaitingSync 0 (.byte 0b10001101) = some (.unknown 0x8D) ∧
  decode .distinctEnd .awaitingSync 0 (.byte 0b11001000) = some (.unknown 0xC8) ∧
  decode .distinctEnd .payloadExpected 3 (.byte 0b10100010) = some (.payloadByte 0xA2) ∧
  decode .distinctEnd .payloadExpected 16 (.byte 0b00000010) = some (.payloadLast 0x02) ∧
  decode .distinctEnd .payloadExpected 5 .abort = some .abort

/-! ## The edge and the step -/

/-- An edge that accepts a transfer runs the class the decoder reads from it, on the state with this edge's sample used up
(the model's own fields `inputs` and `epoch`, log entries 2 and 7). Derived from 30_encoding.md R91 and
40_synchronizer.md R110. -/
def Obligations.StepRunsDecodedTransfer : Prop :=
  ∀ (s : State) (p : Pins) (rest : List Pins) (i : Instr),
    s.inputs = p :: rest → p.rst = false → s.outValid = false → p.inValid = true →
      decode s.mark141 s.sync s.cnt (if p.inAbort then .abort else .byte p.inData) = some i →
        step s = exec i { s with inputs := rest, epoch := s.epoch + 1 }

/-- An edge that accepts nothing: while an event is held, an offered transfer waits and the event leaves to a ready consumer;
while nothing is offered, or no sample is left, the block holds its state. Derived from 30_encoding.md R91, 20_memory.md R55
and 60_exceptions.md R216; that a step with no sample left answers the same state is the model's choice, log entry 2, and that
the register keeps its bits when its event leaves is the model's choice, log entry 8. -/
def Obligations.EdgeWithoutTransferHoldsTheBlock : Prop :=
  (∀ s : State, s.inputs = [] → step s = .next s) ∧
  (∀ (s : State) (p : Pins) (rest : List Pins), s.inputs = p :: rest → p.rst = false → s.outValid = true →
    step s = .next (if p.outReady = true
      then { s with inputs := rest, epoch := s.epoch + 1, outValid := false, taken := s.taken ++ [s.outReg] }
      else { s with inputs := rest, epoch := s.epoch + 1 })) ∧
  (∀ (s : State) (p : Pins) (rest : List Pins), s.inputs = p :: rest → p.rst = false → s.outValid = false →
    p.inValid = false → step s = .next { s with inputs := rest, epoch := s.epoch + 1 })

/-- Reset (70_reset_and_hazards.md R230): at an edge with `rst = 1` the state fields of 10_state.md R34 take their reset
values, a held event is discarded, nothing is emitted and nothing taken; nothing is claimed of `buf`. At transaction level the
RESET token emits nothing and sets the same fields. -/
def Obligations.ResetEdgeSetsResetState : Prop :=
  (∀ (s : State) (p : Pins) (rest : List Pins), s.inputs = p :: rest → p.rst = true →
    ∃ s', step s = .next s' ∧ s'.sync = .awaitingSync ∧ s'.cnt = 0 ∧ s'.src = .live ∧ s'.rc = 0 ∧
      s'.outValid = false ∧ s'.emitted = s.emitted ∧ s'.taken = s.taken ∧ s'.mark141 = s.mark141 ∧ s'.inputs = rest) ∧
  (∀ (m : Mark141) (st : Block), (st.token m .reset).2 = none ∧ (st.token m .reset).1.sync = .awaitingSync ∧
    (st.token m .reset).1.cnt = 0 ∧ (st.token m .reset).1.src = .live ∧ (st.token m .reset).1.rc = 0)

/-- Reset takes precedence (70_reset_and_hazards.md R231): while `rst = 1` the block is not ready and no transfer is
consumed; the consumer takes nothing, whatever `out_ready` is, and `out_valid` is 0 after; one edge is enough, and a further
edge with `rst = 1` changes nothing more. -/
def Obligations.ResetBeatsTransfersAndConsumer : Prop :=
  ∀ (s : State) (p : Pins) (rest : List Pins), s.inputs = p :: rest → p.rst = true →
    s.inReady p.rst = false ∧ s.tokens = [.reset] ∧
    ∃ s', step s = .next s' ∧ s'.outValid = false ∧ s'.taken = s.taken ∧ s'.emitted = s.emitted ∧
      ∀ (q : Pins) (rest' : List Pins), rest = q :: rest' → q.rst = true → step s' = .next { s' with inputs := rest' }

/-- The values the spec gives for reset (10_state.md R22, R34; 00_scope.md R11 for the parameter's default). Of `buf` and the
output event register, which the spec leaves unspecified, nothing is claimed. The empty lists are the model's (log entries
2 and 3). -/
def Obligations.ResetStateValues : Prop :=
  State.reset.sync = .awaitingSync ∧ State.reset.cnt = 0 ∧ State.reset.src = .live ∧ State.reset.rc = 0 ∧
    State.reset.outValid = false ∧ State.reset.mark141 = .distinctEnd ∧ State.reset.emitted = [] ∧
    State.reset.taken = []

/-- Every transfer class runs exactly where its row applies and no event is held; elsewhere `exec` refuses it by name. Derived
from 30_encoding.md R75 and R91; that `exec` refuses there is the model's, log entry 10. -/
def Obligations.TransferRunsExactlyWhereItsRowApplies : Prop :=
  ∀ (i : Instr) (s : State),
    ((∃ s', exec i s = .next s') ↔ s.outValid = false ∧ i.appliesIn s.mark141 s.sync s.cnt = true) ∧
    (exec i s = .refused .outputHeld ↔ s.outValid = true) ∧
    (exec i s = .refused .outsideItsState ↔ s.outValid = false ∧ i.appliesIn s.mark141 s.sync s.cnt = false)

/-- What no transfer class changes, and what it may report: the parameter, the input samples, the taken events and the draw
of the free values stay, and it emits at most one event, which is then held (20_memory.md R49, R50; 30_encoding.md R80, R91).
Derived. -/
def Obligations.EveryTransferEmitsAtMostOneEvent : Prop :=
  ∀ (i : Instr) (s s' : State), exec i s = .next s' →
    s'.mark141 = s.mark141 ∧ s'.inputs = s.inputs ∧ s'.taken = s.taken ∧ s'.epoch = s.epoch ∧
      ((s'.emitted = s.emitted ∧ s'.outValid = s.outValid ∧ s'.outReg = s.outReg) ∨
        ∃ ev, s'.emitted = s.emitted ++ [ev] ∧ s'.outValid = true ∧ s'.outReg = ev)

/-! ## The transfers, one by one: what each does and that it completes -/

/-- FRAME_PRE (40_synchronizer.md R101), range codes 0..6: the byte decodes to its row, whatever came before; the sequencer
goes to (1, 0) with PreRecorded and the range code latched, no event is emitted, and everything else stays. 0x87 is
UNKNOWN. -/
def Obligations.FramePreLatchesSourceAndRange : Prop :=
  (∀ s : State, s.outValid = false → s.sync = .awaitingSync →
    ∀ x ∈ ([(0x80, .framePreR0, 0), (0x81, .framePreR1, 1), (0x82, .framePreR2, 2), (0x83, .framePreR3, 3),
        (0x84, .framePreR4, 4), (0x85, .framePreR5, 5), (0x86, .framePreR6, 6)] : List (Byte × Instr × BitVec 3)),
      decode s.mark141 s.sync s.cnt (.byte x.1) = some x.2.1 ∧
        exec x.2.1 s = .next { s with sync := .payloadExpected, src := .preRecorded, rc := x.2.2, cnt := 0 }) ∧
  (∀ (m : Mark141) (cnt : BitVec 5), decode m .awaitingSync cnt (.byte 0x87) = some (.unknown 0x87))

/-- FRAME_LIVE (40_synchronizer.md R102), range codes 0..6: as FRAME_PRE, with Live latched. 0x9F and 0xA7, on either side of
the class, are UNKNOWN. -/
def Obligations.FrameLiveLatchesSourceAndRange : Prop :=
  (∀ s : State, s.outValid = false → s.sync = .awaitingSync →
    ∀ x ∈ ([(0xA0, .frameLiveR0, 0), (0xA1, .frameLiveR1, 1), (0xA2, .frameLiveR2, 2), (0xA3, .frameLiveR3, 3),
        (0xA4, .frameLiveR4, 4), (0xA5, .frameLiveR5, 5), (0xA6, .frameLiveR6, 6)] : List (Byte × Instr × BitVec 3)),
      decode s.mark141 s.sync s.cnt (.byte x.1) = some x.2.1 ∧
        exec x.2.1 s = .next { s with sync := .payloadExpected, src := .live, rc := x.2.2, cnt := 0 }) ∧
  (∀ (m : Mark141) (cnt : BitVec 5), decode m .awaitingSync cnt (.byte 0x9F) = some (.unknown 0x9F) ∧
    decode m .awaitingSync cnt (.byte 0xA7) = some (.unknown 0xA7))

/-- NEEDMORE (40_synchronizer.md R103): a byte with bit 7 clear is discarded, with the state unchanged and no event; and a run
of any length of such bytes leaves the block in `AwaitingSync` with no event. -/
def Obligations.NeedmoreDiscardsTheByte : Prop :=
  (∀ (s : State) (b : Byte), s.outValid = false → s.sync = .awaitingSync → b.toNat ≤ 0x7F →
    decode s.mark141 s.sync s.cnt (.byte b) = some (.needmore b) ∧ exec (.needmore b) s = .next s) ∧
  (∀ (m : Mark141) (st : Block) (bs : List Byte), st.sync = .awaitingSync → (∀ b ∈ bs, b.toNat ≤ 0x7F) →
    st.run m (bs.map Token.byte) = (st, []))

/-- END (40_synchronizer.md R105): byte 0x90 emits END_MARKER(0x90), which is held for the consumer, and changes no state of
the sequencer, whatever frames came before; in `PayloadExpected` the byte is a payload byte. -/
def Obligations.EndMarkerIsReported : Prop :=
  (∀ s : State, s.outValid = false → s.sync = .awaitingSync →
    decode s.mark141 s.sync s.cnt (.byte 0x90) = some .endMarker ∧
      exec .endMarker s = .next { s with
        outValid := true, outReg := .endMarker 0x90, emitted := s.emitted ++ [.endMarker 0x90] }) ∧
  (∀ (m : Mark141) (cnt : BitVec 5), cnt.toNat < 16 →
    decode m .payloadExpected cnt (.byte 0x90) = some (.payloadByte 0x90)) ∧
  (∀ m : Mark141, decode m .payloadExpected 16 (.byte 0x90) = some (.payloadLast 0x90))

/-- END_UNCONF (40_synchronizer.md R106): with `P_MARK141 = DistinctEnd`, byte 0x8D emits END_UNCONFIRMED(0x8D); with `Unknown`
the same byte is UNKNOWN and emits UNKNOWN_MARKER(0x8D). Under both the state of the sequencer is unchanged. -/
def Obligations.EndUnconfIsReportedApart : Prop :=
  (∀ s : State, s.outValid = false → s.sync = .awaitingSync → s.mark141 = .distinctEnd →
    decode s.mark141 s.sync s.cnt (.byte 0x8D) = some .endUnconf ∧
      exec .endUnconf s = .next { s with
        outValid := true, outReg := .endUnconfirmed 0x8D, emitted := s.emitted ++ [.endUnconfirmed 0x8D] }) ∧
  (∀ s : State, s.outValid = false → s.sync = .awaitingSync → s.mark141 = .unknown →
    decode s.mark141 s.sync s.cnt (.byte 0x8D) = some (.unknown 0x8D) ∧
      exec (.unknown 0x8D) s = .next { s with
        outValid := true, outReg := .unknownMarker 0x8D, emitted := s.emitted ++ [.unknownMarker 0x8D] })

/-- UNKNOWN (40_synchronizer.md R108): a byte with bit 7 set that no other class takes emits UNKNOWN_MARKER(b), one event for
each byte, and changes no state of the sequencer. -/
def Obligations.UnknownMarkerIsReported : Prop :=
  ∀ (s : State) (b : Byte), s.outValid = false → s.sync = .awaitingSync → b.toNat ≥ 0x80 →
    ¬(0x80 ≤ b.toNat ∧ b.toNat ≤ 0x86) → ¬(0xA0 ≤ b.toNat ∧ b.toNat ≤ 0xA6) → b.toNat ≠ 0x90 →
    ¬(b.toNat = 0x8D ∧ s.mark141 = .distinctEnd) →
      decode s.mark141 s.sync s.cnt (.byte b) = some (.unknown b) ∧
        exec (.unknown b) s = .next { s with
          outValid := true, outReg := .unknownMarker b, emitted := s.emitted ++ [.unknownMarker b] }

/-- PAYLOAD_BYTE (41_payload_decoder.md R130): in `PayloadExpected` with k = `st.cnt` in 0..15, a byte of any value, marker
values among them, is stored at buf[k] and counted; no event; every other buffer byte and everything else stays. -/
def Obligations.PayloadByteIsCapturedAtCount : Prop :=
  ∀ (s : State) (b : Byte), s.outValid = false → s.sync = .payloadExpected → s.cnt.toNat ≤ 15 →
    decode s.mark141 s.sync s.cnt (.byte b) = some (.payloadByte b) ∧
    ∃ s', exec (.payloadByte b) s = .next s' ∧ s'.cnt.toNat = s.cnt.toNat + 1 ∧
      (∀ i : Fin 17, s'.buf[i] = if i.val = s.cnt.toNat then b else s.buf[i]) ∧
      s' = { s with buf := s'.buf, cnt := s'.cnt }

/-- PAYLOAD_LAST (41_payload_decoder.md R131): with `st.cnt` = 16 a byte of any value completes the frame: it is buf[16], the 17
bytes are decoded with the latched source and range code, the event is RECORD or DECODE_ERROR, and the block returns to
`AwaitingSync` with count 0 either way; everything else stays. -/
def Obligations.PayloadLastDecodesTheFrame : Prop :=
  ∀ (s : State) (b : Byte), s.outValid = false → s.sync = .payloadExpected → s.cnt.toNat = 16 →
    decode s.mark141 s.sync s.cnt (.byte b) = some (.payloadLast b) ∧
    ∃ s' ev, exec (.payloadLast b) s = .next s' ∧
      (∀ i : Fin 17, s'.buf[i] = if i.val = 16 then b else s.buf[i]) ∧
      (∀ r, decodePayload s'.buf s.src s.rc = .ok r → ev = .record r) ∧
      (∀ code, decodePayload s'.buf s.src s.rc = .err code → ev = .decodeError s.src code) ∧
      s' = { s with
        buf := s'.buf, sync := .awaitingSync, cnt := 0, outValid := true, outReg := ev, emitted := s.emitted ++ [ev] }

/-- ABORT (40_synchronizer.md R112): from either state the block returns to `AwaitingSync` with count 0; the event is
TRANSPORT(Sync, 0) from `AwaitingSync` and TRANSPORT(Payload, st.cnt), with the count before the abort, from
`PayloadExpected`; `src`, `rc`, `buf` and everything else stay. -/
def Obligations.AbortReportsAndResyncs : Prop :=
  (∀ s : State, s.outValid = false → s.sync = .awaitingSync →
    exec .abort s = .next { s with
      sync := .awaitingSync, cnt := 0, outValid := true, outReg := .transport .sync 0,
      emitted := s.emitted ++ [.transport .sync 0] }) ∧
  (∀ s : State, s.outValid = false → s.sync = .payloadExpected →
    exec .abort s = .next { s with
      sync := .awaitingSync, cnt := 0, outValid := true, outReg := .transport .payload s.cnt,
      emitted := s.emitted ++ [.transport .payload s.cnt] }) ∧
  (∀ (m : Mark141) (sync : Sync) (cnt : BitVec 5), decode m sync cnt .abort = some .abort)

/-! ## The payload decoder -/

/-- The flags extractor, bit by bit (41_payload_decoder.md R132): every bit but bit 3 passes through, bit 3 is inverted for a
PreRecorded frame, and bit 7 of the byte does not enter. -/
def Obligations.FlagsExtractorBits : Prop :=
  (∀ (p0 : Byte) (src : Source),
    lowBattery (flags p0 src) = p0.getLsbD 6 ∧ maxEnabled (flags p0 src) = p0.getLsbD 5 ∧
    memoryFull (flags p0 src) = p0.getLsbD 4 ∧
    frequencyWeightingA (flags p0 src) = (p0.getLsbD 3).xor (src == .preRecorded) ∧
    slowTimeWeighting (flags p0 src) = p0.getLsbD 2 ∧ underRangeWarning (flags p0 src) = p0.getLsbD 1 ∧
    overRangeWarning (flags p0 src) = p0.getLsbD 0) ∧
  flags 0x00 .live = 0x00 ∧ flags 0x00 .preRecorded = 0x08 ∧ flags 0x7F .live = 0x7F ∧ flags 0x7F .preRecorded = 0x77

/-- The weighting inversion (41_payload_decoder.md R133): a Live frame shows the raw bit, a PreRecorded frame its inverse, so
the same byte gives opposite A/C labels; no other flag differs between the two sources, the time weighting among them. -/
def Obligations.WeightingInvertedOnlyForPreRecorded : Prop :=
  ∀ p0 : Byte,
    frequencyWeightingA (flags p0 .live) = p0.getLsbD 3 ∧
    frequencyWeightingA (flags p0 .preRecorded) = !(p0.getLsbD 3) ∧
    ∀ i : Nat, i ≠ 3 → (flags p0 .live).getLsbD i = (flags p0 .preRecorded).getLsbD i

/-- The unknown-bits capture (41_payload_decoder.md R134): bit 7 of byte 0 is reported in its own position on a successful
record; setting it is never an error and changes no other field. -/
def Obligations.UnknownBitIsCapturedAndChangesNothingElse : Prop :=
  (∀ p0 : Byte, unknownBits p0 = if p0.getLsbD 7 then 0x80#8 else 0x00#8) ∧
  ∀ (p : Payload) (src : Source) (rc : BitVec 3),
    (∀ r, decodePayload p src rc = .ok r →
      r.unknownBits = unknownBits p[0] ∧
        decodePayload (p.set 0 (p[0] ^^^ 0x80#8)) src rc = .ok { r with unknownBits := r.unknownBits ^^^ 0x80#8 }) ∧
    (∀ code, decodePayload p src rc = .err code → decodePayload (p.set 0 (p[0] ^^^ 0x80#8)) src rc = .err code)

/-- The digit check (41_payload_decoder.md R136): decode fails with InvalidDigit exactly when some byte 1..16 is above 9 as a
whole byte; byte 0 is never checked. -/
def Obligations.InvalidDigitIffSomeDigitAboveNine : Prop :=
  ∀ (p : Payload) (src : Source) (rc : BitVec 3),
    (digitsOk p = true ↔ ∀ i : Fin 17, 1 ≤ i.val → p[i].toNat ≤ 9) ∧
    (decodePayload p src rc = .err .invalidDigit ↔ ∃ i : Fin 17, 1 ≤ i.val ∧ 9 < p[i].toNat) ∧
    (∀ b0 : Byte, digitsOk (p.set 0 b0) = digitsOk p)

/-- The BCD converter (41_payload_decoder.md R135): on two digits, tens then ones, a value 0..99. -/
def Obligations.BcdPairValue : Prop :=
  (∀ hi lo : Byte, hi.toNat ≤ 9 → lo.toNat ≤ 9 →
    bcd2 hi lo = 10 * hi.toNat + lo.toNat ∧ bcd2 hi lo ≤ 99) ∧
  bcd2 1 6 = 16 ∧ bcd2 0 7 = 7 ∧ bcd2 9 9 = 99 ∧ bcd2 0 0 = 0

/-- The decibel value (41_payload_decoder.md R137): a record's tenths are 1000, 100, 10 and 1 times bytes 1 to 4, at most 9999,
and are not checked against the range bounds. -/
def Obligations.DecibelIsTheFourDigits : Prop :=
  (∀ (p : Payload) (src : Source) (rc : BitVec 3) (r : MeasurementRecord), decodePayload p src rc = .ok r →
    r.dbTenths.toNat = 1000 * p[1].toNat + 100 * p[2].toNat + 10 * p[3].toNat + p[4].toNat ∧ r.dbTenths.toNat ≤ 9999) ∧
  (∀ (p : Payload) (src : Source) (rc rc' : BitVec 3) (r : MeasurementRecord), decodePayload p src rc = .ok r →
    rc'.toNat ≤ 6 → ∃ r', decodePayload p src rc' = .ok r' ∧ r'.dbTenths = r.dbTenths)

/-- The range table (41_payload_decoder.md R140): the seven entries, and the formula the spec derives for codes 0..5. -/
def Obligations.RangeTableEntries : Prop :=
  rangeLut 0 = some (30, 80) ∧ rangeLut 1 = some (40, 90) ∧ rangeLut 2 = some (50, 100) ∧
  rangeLut 3 = some (60, 110) ∧ rangeLut 4 = some (70, 120) ∧ rangeLut 5 = some (80, 130) ∧
  rangeLut 6 = some (30, 130) ∧ rangeLut 7 = none ∧
  ∀ rc : BitVec 3, rc.toNat ≤ 5 → rangeLut rc = some (BitVec.ofNat 8 (30 + 10 * rc.toNat), BitVec.ofNat 8 (80 + 10 * rc.toNat))

/-- An out-of-table range code (41_payload_decoder.md R141): decode rejects code 7 with InvalidRange where digits and timestamp
are good, never a default; and no step from a state of the invariant emits InvalidRange. -/
def Obligations.InvalidRangeIsRejectedAndUnreachable : Prop :=
  (∀ (p : Payload) (src : Source), digitsOk p = true → (timestamp p).isSome = true →
    decodePayload p src 7 = .err .invalidRange) ∧
  (∀ (s s' : State), s.Inv → step s = .next s' →
    ∀ (src : Source), OutEvent.decodeError src .invalidRange ∉ s'.emitted)

/-- The order of the checks (41_payload_decoder.md R150): digits, then timestamp, then range, and what a successful decode
holds in every field. -/
def Obligations.DecodeChecksInOrder : Prop :=
  ∀ (p : Payload) (src : Source) (rc : BitVec 3),
    (decodePayload p src rc = .err .invalidDigit ↔ digitsOk p = false) ∧
    (decodePayload p src rc = .err .invalidTimestamp ↔ digitsOk p = true ∧ timestamp p = none) ∧
    (decodePayload p src rc = .err .invalidRange ↔ digitsOk p = true ∧ (timestamp p).isSome = true ∧ 6 < rc.toNat) ∧
    (∀ r, decodePayload p src rc = .ok r ↔
      ∃ t lo hi, digitsOk p = true ∧ timestamp p = some t ∧ rc.toNat ≤ 6 ∧ rangeLut rc = some (lo, hi) ∧
        r = { source := src, yy := t.yy, month := t.month, day := t.day, hour := t.hour, minute := t.minute,
              second := t.second, dbTenths := BitVec.ofNat 14 (decibel p), flags := flags p[0] src,
              unknownBits := p[0] &&& 0x80, rangeLow := lo, rangeHigh := hi })

/-- Every record is whole and in range (41_payload_decoder.md R151, which the spec marks as derived): each field within the
range of 30_encoding.md R81, for all payloads, sources and range codes. -/
def Obligations.EveryRecordFieldIsInRange : Prop :=
  ∀ (p : Payload) (src : Source) (rc : BitVec 3) (r : MeasurementRecord), decodePayload p src rc = .ok r →
    r.source = src ∧ r.yy.toNat ≤ 99 ∧ (1 ≤ r.month.toNat ∧ r.month.toNat ≤ 12) ∧
    (1 ≤ r.day.toNat ∧ r.day.toNat ≤ 31) ∧ r.hour.toNat ≤ 23 ∧ r.minute.toNat ≤ 59 ∧ r.second.toNat ≤ 59 ∧
    r.dbTenths.toNat ≤ 9999 ∧ (r.unknownBits = 0x00 ∨ r.unknownBits = 0x80) ∧
    rangeLut rc = some (r.rangeLow, r.rangeHigh) ∧
    r.day.toNat ≤ daysInMonth (2000 + r.yy.toNat) r.month.toNat

/-! ## The timestamp assembler -/

/-- The assembled fields (42_timestamp.md R170, R171, R172, R173, R176): with every digit legal, the timestamp is valid exactly
when the fields are (the day 40 below its raw value, for every frame), and then holds them; where they are not, decode answers
InvalidTimestamp. -/
def Obligations.TimestampFieldsFromDigits : Prop :=
  ∀ p : Payload, digitsOk p = true →
    let yy := 10 * p[5].toNat + p[6].toNat
    let month := 10 * p[7].toNat + p[8].toNat
    let day : Int := (10 * p[9].toNat + p[10].toNat : Nat) - 40
    let hour := 10 * p[11].toNat + p[12].toNat
    let minute := 10 * p[13].toNat + p[14].toNat
    let second := 10 * p[15].toNat + p[16].toNat
    (timestamp p = none ↔ validDateTime (2000 + yy) month day hour minute second = false) ∧
    (timestamp p = none → ∀ (src : Source) (rc : BitVec 3), decodePayload p src rc = .err .invalidTimestamp) ∧
    ∀ t, timestamp p = some t →
      t.yy.toNat = yy ∧ t.month.toNat = month ∧ (t.day.toNat : Int) = day ∧ t.hour.toNat = hour ∧
        t.minute.toNat = minute ∧ t.second.toNat = second

/-- The month lengths and the leap years of 2000..2099 (42_timestamp.md R174). -/
def Obligations.DaysInMonthAndLeapYears : Prop :=
  ∀ y : Nat, 2000 ≤ y → y ≤ 2099 →
    (leap y = true ↔ y % 4 = 0 ∧ y % 100 ≠ 0 ∨ y % 400 = 0) ∧ (leap y = true ↔ y % 4 = 0) ∧
    (∀ m ∈ [1, 3, 5, 7, 8, 10, 12], daysInMonth y m = 31) ∧ (∀ m ∈ [4, 6, 9, 11], daysInMonth y m = 30) ∧
    (daysInMonth y 2 = if leap y then 29 else 28)

/-- Calendar validity (42_timestamp.md R175): all five conditions, with no leap second. For years outside 2000..2099
`daysInMonth` is the model's choice, log entry 18. -/
def Obligations.ValidDateTimeConditions : Prop :=
  ∀ (y month : Nat) (day : Int) (hour minute second : Nat),
    validDateTime y month day hour minute second = true ↔
      (1 ≤ month ∧ month ≤ 12) ∧ (1 ≤ day ∧ day ≤ daysInMonth y month) ∧ hour ≤ 23 ∧ minute ≤ 59 ∧ second ≤ 59

/-- The timestamp is a function of bytes 5..16 alone (42_timestamp.md R177): not of the flags, the decibel digits, the source,
the range code or anything earlier. For bytes above 9, on which the spec does not define `bcd2` (41_payload_decoder.md R135), the
value it is a function to is the model's choice, log entry 18. -/
def Obligations.TimestampReadsOnlyItsDigits : Prop :=
  (∀ p q : Payload, (∀ i : Fin 17, 5 ≤ i.val → p[i] = q[i]) → timestamp p = timestamp q) ∧
  (∀ (p : Payload) (src src' : Source) (rc rc' : BitVec 3) (r r' : MeasurementRecord),
    decodePayload p src rc = .ok r → decodePayload p src' rc' = .ok r' →
      r'.yy = r.yy ∧ r'.month = r.month ∧ r'.day = r.day ∧ r'.hour = r.hour ∧ r'.minute = r.minute ∧
        r'.second = r.second)

/-- The worked corner cases of 42_timestamp.md R178 (which the spec marks as derived), each through the assembler on a payload,
digits most significant first and the day as the device sends it. A case that is Invalid is Invalid whatever the bytes it does
not name hold; a case that is valid is given with a date and a time of 95_test_vectors.md L2.8 around the digits it names, and for
23:59:59 with any date that is valid at 00:00:00. R178 has every digit legal: that the cases hold of payloads with an unnamed byte
above 9 too, where `bcd2` and so `timestamp` are not defined by the spec (41_payload_decoder.md R135), is the model's choice, log
entry 18. -/
def Obligations.TimestampCornerCases : Prop :=
  (∀ p : Payload,
    (p[9] = 4 ∧ p[10] = 0 → timestamp p = none) ∧
    (p[5] = 2 ∧ p[6] = 3 ∧ p[7] = 0 ∧ p[8] = 2 ∧ p[9] = 6 ∧ p[10] = 9 → timestamp p = none) ∧
    (p[7] = 0 ∧ p[8] = 4 ∧ p[9] = 7 ∧ p[10] = 1 → timestamp p = none) ∧
    (p[7] = 0 ∧ p[8] = 0 → timestamp p = none) ∧ (p[7] = 1 ∧ p[8] = 3 → timestamp p = none) ∧
    (p[11] = 2 ∧ p[12] = 4 → timestamp p = none) ∧ (p[13] = 6 ∧ p[14] = 0 → timestamp p = none) ∧
    (p[15] = 6 ∧ p[16] = 0 → timestamp p = none)) ∧
  timestamp #v[0, 0, 0, 0, 0, 1, 7, 0, 7, 4, 1, 0, 0, 0, 0, 0, 0] =
    some { yy := 17, month := 7, day := 1, hour := 0, minute := 0, second := 0 } ∧
  timestamp #v[0, 0, 0, 0, 0, 2, 4, 0, 2, 6, 9, 1, 2, 0, 0, 0, 0] =
    some { yy := 24, month := 2, day := 29, hour := 12, minute := 0, second := 0 } ∧
  timestamp #v[0, 0, 0, 0, 0, 0, 0, 0, 2, 6, 9, 0, 0, 0, 0, 0, 0] =
    some { yy := 0, month := 2, day := 29, hour := 0, minute := 0, second := 0 } ∧
  (∀ (p q : Payload) (t : Timestamp), (∀ i : Fin 17, i.val < 11 → q[i] = p[i]) →
    p[11] = 0 ∧ p[12] = 0 ∧ p[13] = 0 ∧ p[14] = 0 ∧ p[15] = 0 ∧ p[16] = 0 →
    q[11] = 2 ∧ q[12] = 3 ∧ q[13] = 5 ∧ q[14] = 9 ∧ q[15] = 5 ∧ q[16] = 9 →
      timestamp p = some t → timestamp q = some { t with hour := 23, minute := 59, second := 59 })

/-! ## The ports -/

/-- The output ports (30_encoding.md R82, R83, R84, R90): while no event is held every `out_*` and `rec_*` port is 0; the tag
and error codes; tags 6 and 7 and error code 0 of a decode error never show; the fields of each tag, and 0 in the others. -/
def Obligations.OutputPortsShowTheHeldEvent : Prop :=
  (∀ (s : State) (rst : Bool), s.outValid = false → (s.ports rst).event = { } ∧ (s.ports rst).outValid = false) ∧
  (∀ (s : State) (rst : Bool), s.outValid = true → (s.ports rst).event = eventPorts s.outReg ∧ (s.ports rst).outValid = true) ∧
  (∀ ev : OutEvent, (eventPorts ev).outTag = eventTag ev ∧ (eventTag ev).toNat ≤ 5) ∧
  (∀ r : MeasurementRecord, eventPorts (.record r) =
    { outTag := 0, outSrc := sourceCode r.source, recYy := r.yy, recMonth := r.month, recDay := r.day, recHour := r.hour,
      recMin := r.minute, recSec := r.second, recDb := r.dbTenths, recFlags := r.flags, recUnknown := r.unknownBits,
      recRlow := r.rangeLow, recRhigh := r.rangeHigh }) ∧
  (∀ (src : Source) (code : DecodeErr),
    eventPorts (.decodeError src code) = { outTag := 1, outSrc := sourceCode src, outErr := errCode code } ∧ errCode code ≠ 0) ∧
  (errCode .invalidDigit = 1 ∧ errCode .invalidTimestamp = 2 ∧ errCode .invalidRange = 3) ∧
  (sourceCode .live = 0 ∧ sourceCode .preRecorded = 1) ∧
  (∀ b : Byte, eventPorts (.unknownMarker b) = { outTag := 2, outByte := b } ∧
    eventPorts (.endMarker b) = { outTag := 3, outByte := b } ∧
    eventPorts (.endUnconfirmed b) = { outTag := 4, outByte := b }) ∧
  (∀ c : BitVec 5, eventPorts (.transport .sync c) = { outTag := 5, outPhase := 0, outCount := c } ∧
    eventPorts (.transport .payload c) = { outTag := 5, outPhase := 1, outCount := c })

/-- The ports lose nothing: the consumer can tell every two events apart. Derived from 30_encoding.md R80 to R84 and R90. -/
def Obligations.OutputPortsDetermineTheEvent : Prop :=
  ∀ ev ev' : OutEvent, eventPorts ev = eventPorts ev' → ev = ev'

/-- The status port (30_encoding.md R92): it shows the current sequencer fields at all times, reset among them, and an edge
that is neither a reset nor a transfer does not change it. -/
def Obligations.StatusPortShowsTheSequencer : Prop :=
  (∀ (s : State) (rst : Bool),
    ((s.ports rst).stSync = 1 ↔ s.sync = .payloadExpected) ∧ (s.ports rst).stCnt = s.cnt ∧
    ((s.ports rst).stSrc = 1 ↔ s.src = .preRecorded) ∧ (s.ports rst).stRc = s.rc) ∧
  (∀ (s s' : State) (rst rst' : Bool), step s = .next s' → s.tokens = [] →
    (s'.ports rst').stSync = (s.ports rst).stSync ∧ (s'.ports rst').stCnt = (s.ports rst).stCnt ∧
    (s'.ports rst').stSrc = (s.ports rst).stSrc ∧ (s'.ports rst').stRc = (s.ports rst).stRc)

/-- No event is dropped or duplicated (30_encoding.md R91): at every edge without reset, what was emitted stays what was taken
and what is held, in order; and at every edge, reset among them, the taken and held events stay a subsequence of the emitted
ones. Derived from R91. -/
def Obligations.EventsAreNeitherDroppedNorDuplicated : Prop :=
  (∀ s s' : State, s.Conserved → step s = .next s' → Token.reset ∉ s.tokens → s'.Conserved) ∧
  (∀ s s' : State, List.Sublist (s.taken ++ s.held) s.emitted → step s = .next s' →
    List.Sublist (s'.taken ++ s'.held) s'.emitted)

/-- A stall, however long (30_encoding.md R91; 70_reset_and_hazards.md R231, R243). Whatever is offered, while the block is not
ready it accepts no transfer and emits nothing, and where no edge of the stall is a reset it holds its transaction-level state. With
a transport that keeps its duty the transfer offered at the start is still offered when the stall ends, and the first edge at which the
block is ready accepts that transfer. Derived from R91, R231 and R243; that the transport keeps its duty is a premise, log
entry 13. -/
def Obligations.StalledTransferStaysOffered : Prop :=
  (∀ (n : Nat) (s s' : State),
    (∀ (k : Nat) (t : State), k < n → Sys2Proof.core.run k s = .next t → t.Stalls) →
      Sys2Proof.core.run n s = .next s' →
        (∀ e : InEvent, Token.transfer e ∉ runTokens n s) ∧ s'.emitted = s.emitted ∧
          (Token.reset ∉ runTokens n s → s'.block = s.block)) ∧
  (∀ (n : Nat) (s s' : State) (e : InEvent), s.Offers e →
    (∀ (k : Nat) (t : State), k < n → Sys2Proof.core.run k s = .next t → t.Stalls ∧ t.TransportHolds) →
      Sys2Proof.core.run n s = .next s' → s'.Offers e ∧ (¬ s'.Stalls → s'.tokens = [.transfer e]))

/-! ## Rules of the whole machine -/

/-- The invariant holds right after reset, under both values of the parameter and whatever the outside offers. Derived from
10_state.md R27 and R34. -/
def Obligations.InvariantHoldsAtReset : Prop :=
  State.reset.Inv ∧ ∀ (m : Mark141) (inputs : List Pins), ({ State.reset with mark141 := m, inputs := inputs } : State).Inv

/-- Every step keeps the invariant (10_state.md R27, which the spec marks as derived, with the bound of R21, and only
allowed events emitted, InvalidRange not among them). -/
def Obligations.EveryStepKeepsTheInvariant : Prop :=
  ∀ s s' : State, s.Inv → step s = .next s' → s'.Inv

/-- No input makes the block fault: no state of the invariant, and no run from reset under either value of the parameter and any
inputs whatever, faults or is refused. Derived from 00_scope.md R9, which speaks of steps on an InEvent. That a state with no sample
left, and a run longer than its inputs, answer a next state too (the same one) is the model's choice, log entry 2; the spec calls
that wait stuck (93_implementation_defined.md K7, K8). -/
def Obligations.StepNeverFaultsOrStops : Prop :=
  (∀ s : State, s.Inv → ∃ s', step s = .next s') ∧
  (∀ (m : Mark141) (inputs : List Pins) (n : Nat),
    ∃ s' : State, Sys2Proof.core.run n { State.reset with mark141 := m, inputs := inputs } = .next s')

/-- The sequencer moves only as 10_state.md R21 lists: a Frame marker sets (1, 0); each payload byte adds 1 but the last, which
sets (0, 0); an abort and a reset set (0, 0); nothing else changes it. -/
def Obligations.SequencerMovesOnlyAsListed : Prop :=
  ∀ s s' : State, step s = .next s' →
    (s.tokens = [] → s'.sync = s.sync ∧ s'.cnt = s.cnt) ∧
    (s.tokens = [.reset] → s'.sync = .awaitingSync ∧ s'.cnt = 0) ∧
    (s.tokens = [.transfer .abort] → s'.sync = .awaitingSync ∧ s'.cnt = 0) ∧
    (∀ b, s.tokens = [.transfer (.byte b)] →
      (s.sync = .payloadExpected ∧ s.cnt.toNat < 16 → s'.sync = .payloadExpected ∧ s'.cnt.toNat = s.cnt.toNat + 1) ∧
      (s.sync = .payloadExpected ∧ s.cnt.toNat = 16 → s'.sync = .awaitingSync ∧ s'.cnt = 0) ∧
      (s.sync = .awaitingSync → ∀ kind rc, classify s.mark141 b = .frame kind rc →
        s'.sync = .payloadExpected ∧ s'.cnt = 0) ∧
      (s.sync = .awaitingSync → (∀ kind rc, classify s.mark141 b ≠ .frame kind rc) → s'.sync = s.sync ∧ s'.cnt = s.cnt))

/-- `st.src` and `st.rc` are written only by a Frame marker, with its source and range code, and by reset; the range code a
marker writes is 0..6 (10_state.md R23, R24). Derived. -/
def Obligations.SourceAndRangeWrittenOnlyByFrameMarkers : Prop :=
  ∀ s s' : State, step s = .next s' →
    (s'.src = s.src ∧ s'.rc = s.rc) ∨ s.tokens = [.reset] ∨
      ∃ b kind rc, s.tokens = [.transfer (.byte b)] ∧ s.sync = .awaitingSync ∧
        classify s.mark141 b = .frame kind rc ∧ s'.src = kind ∧ s'.rc = rc ∧ rc.toNat ≤ 6

/-- The payload buffer is written only by a payload byte, one byte, at index `st.cnt` (20_memory.md R41); a reset leaves it
unspecified (10_state.md R34). Derived. -/
def Obligations.BufferWrittenOnlyByPayloadBytes : Prop :=
  ∀ (s s' : State) (i : Fin 17), step s = .next s' → s'.buf[i] ≠ s.buf[i] →
    s.tokens = [.reset] ∨
      ∃ b, s.tokens = [.transfer (.byte b)] ∧ s.sync = .payloadExpected ∧ i.val = s.cnt.toNat ∧ s'.buf[i] = b

/-- In `AwaitingSync` every byte but a Frame marker leaves the state of 10_state.md R20 unchanged, no byte emits more than one
event, and a Frame marker emits none (40_synchronizer.md R114, which the spec marks as derived). -/
def Obligations.AwaitingSyncByteEffects : Prop :=
  ∀ (s s' : State) (b : Byte), s.sync = .awaitingSync → s.tokens = [.transfer (.byte b)] → step s = .next s' →
    ((∀ kind rc, classify s.mark141 b ≠ .frame kind rc) → s'.block = s.block) ∧
    (s'.emitted = s.emitted ∨ ∃ ev, s'.emitted = s.emitted ++ [ev]) ∧
    (∀ kind rc, classify s.mark141 b = .frame kind rc → s'.emitted = s.emitted)

/-- A RECORD or DECODE_ERROR comes only from the step that consumes payload byte 16, and is the decode of the 17 bytes of the
buffer, that byte among them, with the latched source and range code; and no emitted event is changed later
(20_memory.md R48). That those are the frame's own bytes is `WholeFrameEmitsItsDecode`. Derived. -/
def Obligations.RecordsComeOnlyFromTheSeventeenthByte : Prop :=
  ∀ s s' : State, step s = .next s' →
    ∃ new, s'.emitted = s.emitted ++ new ∧
      ∀ ev ∈ new, ((∃ r, ev = .record r) ∨ ∃ src code, ev = .decodeError src code) →
        ∃ b, s.tokens = [.transfer (.byte b)] ∧ s.sync = .payloadExpected ∧ s.cnt.toNat = 16 ∧
          ev = decodeEvent (s.buf.set 16 b) s.src s.rc

/-- No resync inside a payload (70_reset_and_hazards.md R240): while a payload is expected, a byte of any value, marker values
among them, is stored as the payload's next byte and starts no frame (source and range code stay); before the 17th it leaves
the block in the payload and emits nothing; and before the 17th byte the payload ends only by an abort (or a reset). -/
def Obligations.PayloadEndsEarlyOnlyByAbort : Prop :=
  ∀ s s' : State, s.sync = .payloadExpected → s.cnt.toNat ≤ 16 → step s = .next s' →
    (∀ b, s.tokens = [.transfer (.byte b)] →
      (∀ i : Fin 17, i.val = s.cnt.toNat → s'.buf[i] = b) ∧ s'.src = s.src ∧ s'.rc = s.rc) ∧
    (∀ b, s.tokens = [.transfer (.byte b)] → s.cnt.toNat < 16 →
      s'.sync = .payloadExpected ∧ s'.cnt.toNat = s.cnt.toNat + 1 ∧ s'.emitted = s.emitted) ∧
    (s.cnt.toNat < 16 → s'.sync = .awaitingSync → s.tokens = [.transfer .abort] ∨ s.tokens = [.reset])

/-- A payload that keeps receiving bytes ends: while bytes are missing the block stays in the payload, counts them and emits
nothing; the last missing byte brings it back to `AwaitingSync` with exactly one event, the decode of the bytes captured before and
the bytes received, in their order, with the latched source and range code. Derived from 10_state.md R22, R27 (I-c), 20_memory.md R42
and 41_payload_decoder.md R130, R131. -/
def Obligations.PayloadEndsWithinSeventeenBytes : Prop :=
  ∀ (m : Mark141) (st : Block) (bs : List Byte), st.sync = .payloadExpected → st.cnt.toNat ≤ 16 →
    (bs.length + st.cnt.toNat < 17 →
      (st.run m (bs.map Token.byte)).1.sync = .payloadExpected ∧
        (st.run m (bs.map Token.byte)).1.cnt.toNat = st.cnt.toNat + bs.length ∧ (st.run m (bs.map Token.byte)).2 = []) ∧
    (bs.length + st.cnt.toNat = 17 →
      (st.run m (bs.map Token.byte)).1.sync = .awaitingSync ∧ (st.run m (bs.map Token.byte)).1.cnt = 0 ∧
        ∃ p : Payload, (st.run m (bs.map Token.byte)).2 = [decodeEvent p st.src st.rc] ∧
          (∀ i : Fin 17, i.val < st.cnt.toNat → p[i] = st.buf[i]) ∧
          (∀ i : Fin 17, st.cnt.toNat ≤ i.val → bs[i.val - st.cnt.toNat]? = some p[i]))

/-- A whole frame, marker and seventeen bytes of any values, played at the ports into a block that awaits sync, gives exactly one
event: the decode of those seventeen bytes with the marker's source and range code; the consumer has it, the block awaits
sync again, and the buffer holds the frame (R27 (I-c)). The 36 edges and the schedule (one edge offers a transfer, the next has
the consumer ready) are the model's choices, log entries 1 and 17: the spec lets a decode take longer (70_reset_and_hazards.md R250)
and asks that claims name no cycles (D23), so the count says nothing of other implementations. Derived from 20_memory.md R42,
R48, 40_synchronizer.md R101, R102 and 41_payload_decoder.md R130, R131. -/
def Obligations.WholeFrameEmitsItsDecode : Prop :=
  ∀ (kind : Source) (r : BitVec 3) (p : Payload) (rest : List Pins) (s : State),
    r.toNat ≤ 6 → s.sync = .awaitingSync → s.outValid = false →
    s.inputs = (Token.frame kind r p).flatMap Token.pins ++ rest →
      ∃ s' : State, Sys2Proof.core.run 36 s = .next s' ∧ s'.emitted = s.emitted ++ [decodeEvent p kind r] ∧
        s'.taken = s.taken ++ [decodeEvent p kind r] ∧ s'.outValid = false ∧ s'.sync = .awaitingSync ∧ s'.cnt = 0 ∧
        s'.src = kind ∧ s'.rc = r ∧ s'.buf = p ∧ s'.mark141 = s.mark141 ∧ s'.inputs = rest

/-- A lost payload byte costs the frame a decode error, not a wrong record, where the next frame's marker is taken for its last
byte (70_reset_and_hazards.md R241, R240): a frame of 16 payload bytes followed by any byte with bit 7 set reports one event,
DECODE_ERROR with InvalidDigit, and the block awaits sync again. Derived; the spec says "most likely". -/
def Obligations.MarkerTakenAsLastByteIsADecodeError : Prop :=
  ∀ (m : Mark141) (st : Block) (kind : Source) (r : BitVec 3) (bs : List Byte) (b : Byte),
    st.sync = .awaitingSync → r.toNat ≤ 6 → bs.length = 16 → b.getLsbD 7 = true →
      (st.run m (Token.byte (frameMarker kind r) :: (bs ++ [b]).map Token.byte)).2 = [.decodeError kind .invalidDigit] ∧
      (st.run m (Token.byte (frameMarker kind r) :: (bs ++ [b]).map Token.byte)).1.sync = .awaitingSync

/-- No step changes the build-time parameter (10_state.md R31; 20_memory.md R53). Derived: holding it in the state is the model's
choice, log entry 4. -/
def Obligations.ParameterNeverChanges : Prop :=
  ∀ s s' : State, step s = .next s' → s'.mark141 = s.mark141

/-- `P_MARK141` (00_scope.md R11): the default is DistinctEnd; byte 0x8D is an unconfirmed end marker under it and an unknown
marker under Unknown; and nothing but that report depends on it: run the block under both values on the same inputs, and at
every step it has the same transaction-level state, the same handshake, and the same events but that END_UNCONFIRMED is
UNKNOWN_MARKER of the same byte. -/
def Obligations.ParameterChangesOnlyTheReportOfByte141 : Prop :=
  State.reset.mark141 = .distinctEnd ∧ classify .distinctEnd 0x8D = .endMarkerUnconfirmed ∧
  classify .unknown 0x8D = .unknownMarker 0x8D ∧
  ∀ (n : Nat) (s t s' : State), s.Mark141Twins t → Sys2Proof.core.run n s = .next s' →
    ∃ t' : State, Sys2Proof.core.run n t = .next t' ∧ s'.Mark141Twins t'

/-- What a block holds while it awaits sync, what the current frame has not delivered, and what an empty output register holds
reach no event (10_state.md R28, which the spec marks as derived): two states that differ in nothing else give the same events
at the same edges, for ever. -/
def Obligations.StaleStateNeverReachesAnEvent : Prop :=
  ∀ (n : Nat) (s t s' : State), s.Alike t → Sys2Proof.core.run n s = .next s' →
    ∃ t' : State, Sys2Proof.core.run n t = .next t' ∧ s'.Alike t' ∧ s'.emitted = t'.emitted ∧ s'.taken = t'.taken ∧
      ∀ rst, (s'.ports rst).event = (t'.ports rst).event ∧ (s'.ports rst).inReady = (t'.ports rst).inReady

/-- The port-level machine is the transaction-level one (00_scope.md R8; 40_synchronizer.md R110): over any number of edges and
any inputs, the sequencer, the source, the range code and the delivered buffer bytes, and the events emitted, are those of the
fold of the transaction-level step over the transfers accepted and the resets, in their order. Derived. -/
def Obligations.PortRunIsTheTransactionFold : Prop :=
  ∀ (n : Nat) (s s' : State), s.Inv → Sys2Proof.core.run n s = .next s' →
    s'.block.Agrees (s.block.run s.mark141 (runTokens n s)).1 ∧
      s'.emitted = s.emitted ++ (s.block.run s.mark141 (runTokens n s)).2
end

