-- ==== Sys2Proof/Laws/State.lean ====
section
/-! SUPPORT. One lemma for each field of the state under each named update, so that no proof unfolds a record update. -/

namespace Sys2Proof.Machine

@[simp] theorem State.emit_mark141 (ev : OutEvent) (s : State) : (s.emit ev).mark141 = s.mark141 := rfl
@[simp] theorem State.emit_sync (ev : OutEvent) (s : State) : (s.emit ev).sync = s.sync := rfl
@[simp] theorem State.emit_src (ev : OutEvent) (s : State) : (s.emit ev).src = s.src := rfl
@[simp] theorem State.emit_rc (ev : OutEvent) (s : State) : (s.emit ev).rc = s.rc := rfl
@[simp] theorem State.emit_cnt (ev : OutEvent) (s : State) : (s.emit ev).cnt = s.cnt := rfl
@[simp] theorem State.emit_buf (ev : OutEvent) (s : State) : (s.emit ev).buf = s.buf := rfl
@[simp] theorem State.emit_outValid (ev : OutEvent) (s : State) : (s.emit ev).outValid = true := rfl
@[simp] theorem State.emit_outReg (ev : OutEvent) (s : State) : (s.emit ev).outReg = ev := rfl
@[simp] theorem State.emit_inputs (ev : OutEvent) (s : State) : (s.emit ev).inputs = s.inputs := rfl
@[simp] theorem State.emit_emitted (ev : OutEvent) (s : State) : (s.emit ev).emitted = s.emitted ++ [ev] := rfl
@[simp] theorem State.emit_taken (ev : OutEvent) (s : State) : (s.emit ev).taken = s.taken := rfl
@[simp] theorem State.emit_epoch (ev : OutEvent) (s : State) : (s.emit ev).epoch = s.epoch := rfl

@[simp] theorem State.latchFrame_mark141 (kind : Source) (range : BitVec 3) (s : State) : (s.latchFrame kind range).mark141 = s.mark141 := rfl
@[simp] theorem State.latchFrame_sync (kind : Source) (range : BitVec 3) (s : State) : (s.latchFrame kind range).sync = .payloadExpected := rfl
@[simp] theorem State.latchFrame_src (kind : Source) (range : BitVec 3) (s : State) : (s.latchFrame kind range).src = kind := rfl
@[simp] theorem State.latchFrame_rc (kind : Source) (range : BitVec 3) (s : State) : (s.latchFrame kind range).rc = range := rfl
@[simp] theorem State.latchFrame_cnt (kind : Source) (range : BitVec 3) (s : State) : (s.latchFrame kind range).cnt = 0 := rfl
@[simp] theorem State.latchFrame_buf (kind : Source) (range : BitVec 3) (s : State) : (s.latchFrame kind range).buf = s.buf := rfl
@[simp] theorem State.latchFrame_outValid (kind : Source) (range : BitVec 3) (s : State) : (s.latchFrame kind range).outValid = s.outValid := rfl
@[simp] theorem State.latchFrame_outReg (kind : Source) (range : BitVec 3) (s : State) : (s.latchFrame kind range).outReg = s.outReg := rfl
@[simp] theorem State.latchFrame_inputs (kind : Source) (range : BitVec 3) (s : State) : (s.latchFrame kind range).inputs = s.inputs := rfl
@[simp] theorem State.latchFrame_emitted (kind : Source) (range : BitVec 3) (s : State) : (s.latchFrame kind range).emitted = s.emitted := rfl
@[simp] theorem State.latchFrame_taken (kind : Source) (range : BitVec 3) (s : State) : (s.latchFrame kind range).taken = s.taken := rfl
@[simp] theorem State.latchFrame_epoch (kind : Source) (range : BitVec 3) (s : State) : (s.latchFrame kind range).epoch = s.epoch := rfl

@[simp] theorem State.writeBuf_mark141 (b : Byte) (s : State) : (s.writeBuf b).mark141 = s.mark141 := rfl
@[simp] theorem State.writeBuf_sync (b : Byte) (s : State) : (s.writeBuf b).sync = s.sync := rfl
@[simp] theorem State.writeBuf_src (b : Byte) (s : State) : (s.writeBuf b).src = s.src := rfl
@[simp] theorem State.writeBuf_rc (b : Byte) (s : State) : (s.writeBuf b).rc = s.rc := rfl
@[simp] theorem State.writeBuf_cnt (b : Byte) (s : State) : (s.writeBuf b).cnt = s.cnt := rfl
@[simp] theorem State.writeBuf_buf (b : Byte) (s : State) : (s.writeBuf b).buf = s.buf.setIfInBounds s.cnt.toNat b := rfl
@[simp] theorem State.writeBuf_outValid (b : Byte) (s : State) : (s.writeBuf b).outValid = s.outValid := rfl
@[simp] theorem State.writeBuf_outReg (b : Byte) (s : State) : (s.writeBuf b).outReg = s.outReg := rfl
@[simp] theorem State.writeBuf_inputs (b : Byte) (s : State) : (s.writeBuf b).inputs = s.inputs := rfl
@[simp] theorem State.writeBuf_emitted (b : Byte) (s : State) : (s.writeBuf b).emitted = s.emitted := rfl
@[simp] theorem State.writeBuf_taken (b : Byte) (s : State) : (s.writeBuf b).taken = s.taken := rfl
@[simp] theorem State.writeBuf_epoch (b : Byte) (s : State) : (s.writeBuf b).epoch = s.epoch := rfl

@[simp] theorem State.countByte_mark141 (s : State) : s.countByte.mark141 = s.mark141 := rfl
@[simp] theorem State.countByte_sync (s : State) : s.countByte.sync = s.sync := rfl
@[simp] theorem State.countByte_src (s : State) : s.countByte.src = s.src := rfl
@[simp] theorem State.countByte_rc (s : State) : s.countByte.rc = s.rc := rfl
@[simp] theorem State.countByte_cnt (s : State) : s.countByte.cnt = s.cnt + 1 := rfl
@[simp] theorem State.countByte_buf (s : State) : s.countByte.buf = s.buf := rfl
@[simp] theorem State.countByte_outValid (s : State) : s.countByte.outValid = s.outValid := rfl
@[simp] theorem State.countByte_outReg (s : State) : s.countByte.outReg = s.outReg := rfl
@[simp] theorem State.countByte_inputs (s : State) : s.countByte.inputs = s.inputs := rfl
@[simp] theorem State.countByte_emitted (s : State) : s.countByte.emitted = s.emitted := rfl
@[simp] theorem State.countByte_taken (s : State) : s.countByte.taken = s.taken := rfl
@[simp] theorem State.countByte_epoch (s : State) : s.countByte.epoch = s.epoch := rfl

@[simp] theorem State.resync_mark141 (s : State) : s.resync.mark141 = s.mark141 := rfl
@[simp] theorem State.resync_sync (s : State) : s.resync.sync = .awaitingSync := rfl
@[simp] theorem State.resync_src (s : State) : s.resync.src = s.src := rfl
@[simp] theorem State.resync_rc (s : State) : s.resync.rc = s.rc := rfl
@[simp] theorem State.resync_cnt (s : State) : s.resync.cnt = 0 := rfl
@[simp] theorem State.resync_buf (s : State) : s.resync.buf = s.buf := rfl
@[simp] theorem State.resync_outValid (s : State) : s.resync.outValid = s.outValid := rfl
@[simp] theorem State.resync_outReg (s : State) : s.resync.outReg = s.outReg := rfl
@[simp] theorem State.resync_inputs (s : State) : s.resync.inputs = s.inputs := rfl
@[simp] theorem State.resync_emitted (s : State) : s.resync.emitted = s.emitted := rfl
@[simp] theorem State.resync_taken (s : State) : s.resync.taken = s.taken := rfl
@[simp] theorem State.resync_epoch (s : State) : s.resync.epoch = s.epoch := rfl

@[simp] theorem State.resetEdge_mark141 (s : State) : s.resetEdge.mark141 = s.mark141 := rfl
@[simp] theorem State.resetEdge_sync (s : State) : s.resetEdge.sync = .awaitingSync := rfl
@[simp] theorem State.resetEdge_src (s : State) : s.resetEdge.src = .live := rfl
@[simp] theorem State.resetEdge_rc (s : State) : s.resetEdge.rc = 0 := rfl
@[simp] theorem State.resetEdge_cnt (s : State) : s.resetEdge.cnt = 0 := rfl
@[simp] theorem State.resetEdge_buf (s : State) : s.resetEdge.buf = Vector.ofFn fun i => Config.freeByte s.epoch i.val := rfl
@[simp] theorem State.resetEdge_outValid (s : State) : s.resetEdge.outValid = false := rfl
@[simp] theorem State.resetEdge_outReg (s : State) : s.resetEdge.outReg = Config.freeEvent s.epoch := rfl
@[simp] theorem State.resetEdge_inputs (s : State) : s.resetEdge.inputs = s.inputs := rfl
@[simp] theorem State.resetEdge_emitted (s : State) : s.resetEdge.emitted = s.emitted := rfl
@[simp] theorem State.resetEdge_taken (s : State) : s.resetEdge.taken = s.taken := rfl
@[simp] theorem State.resetEdge_epoch (s : State) : s.resetEdge.epoch = s.epoch := rfl

@[simp] theorem State.takeEvent_mark141 (s : State) : s.takeEvent.mark141 = s.mark141 := rfl
@[simp] theorem State.takeEvent_sync (s : State) : s.takeEvent.sync = s.sync := rfl
@[simp] theorem State.takeEvent_src (s : State) : s.takeEvent.src = s.src := rfl
@[simp] theorem State.takeEvent_rc (s : State) : s.takeEvent.rc = s.rc := rfl
@[simp] theorem State.takeEvent_cnt (s : State) : s.takeEvent.cnt = s.cnt := rfl
@[simp] theorem State.takeEvent_buf (s : State) : s.takeEvent.buf = s.buf := rfl
@[simp] theorem State.takeEvent_outValid (s : State) : s.takeEvent.outValid = false := rfl
@[simp] theorem State.takeEvent_outReg (s : State) : s.takeEvent.outReg = s.outReg := rfl
@[simp] theorem State.takeEvent_inputs (s : State) : s.takeEvent.inputs = s.inputs := rfl
@[simp] theorem State.takeEvent_emitted (s : State) : s.takeEvent.emitted = s.emitted := rfl
@[simp] theorem State.takeEvent_taken (s : State) : s.takeEvent.taken = s.taken ++ [s.outReg] := rfl
@[simp] theorem State.takeEvent_epoch (s : State) : s.takeEvent.epoch = s.epoch := rfl

@[simp] theorem State.afterSample_mark141 (rest : List Pins) (s : State) : (s.afterSample rest).mark141 = s.mark141 := rfl
@[simp] theorem State.afterSample_sync (rest : List Pins) (s : State) : (s.afterSample rest).sync = s.sync := rfl
@[simp] theorem State.afterSample_src (rest : List Pins) (s : State) : (s.afterSample rest).src = s.src := rfl
@[simp] theorem State.afterSample_rc (rest : List Pins) (s : State) : (s.afterSample rest).rc = s.rc := rfl
@[simp] theorem State.afterSample_cnt (rest : List Pins) (s : State) : (s.afterSample rest).cnt = s.cnt := rfl
@[simp] theorem State.afterSample_buf (rest : List Pins) (s : State) : (s.afterSample rest).buf = s.buf := rfl
@[simp] theorem State.afterSample_outValid (rest : List Pins) (s : State) : (s.afterSample rest).outValid = s.outValid := rfl
@[simp] theorem State.afterSample_outReg (rest : List Pins) (s : State) : (s.afterSample rest).outReg = s.outReg := rfl
@[simp] theorem State.afterSample_inputs (rest : List Pins) (s : State) : (s.afterSample rest).inputs = rest := rfl
@[simp] theorem State.afterSample_emitted (rest : List Pins) (s : State) : (s.afterSample rest).emitted = s.emitted := rfl
@[simp] theorem State.afterSample_taken (rest : List Pins) (s : State) : (s.afterSample rest).taken = s.taken := rfl
@[simp] theorem State.afterSample_epoch (rest : List Pins) (s : State) : (s.afterSample rest).epoch = s.epoch + 1 := rfl

@[simp] theorem State.offer_mark141 (e : InEvent) (s : State) : (s.offer e).mark141 = s.mark141 := rfl
@[simp] theorem State.offer_sync (e : InEvent) (s : State) : (s.offer e).sync = s.sync := rfl
@[simp] theorem State.offer_src (e : InEvent) (s : State) : (s.offer e).src = s.src := rfl
@[simp] theorem State.offer_rc (e : InEvent) (s : State) : (s.offer e).rc = s.rc := rfl
@[simp] theorem State.offer_cnt (e : InEvent) (s : State) : (s.offer e).cnt = s.cnt := rfl
@[simp] theorem State.offer_buf (e : InEvent) (s : State) : (s.offer e).buf = s.buf := rfl
@[simp] theorem State.offer_outValid (e : InEvent) (s : State) : (s.offer e).outValid = false := rfl
@[simp] theorem State.offer_outReg (e : InEvent) (s : State) : (s.offer e).outReg = s.outReg := rfl
@[simp] theorem State.offer_inputs (e : InEvent) (s : State) : (s.offer e).inputs = Pins.offer e :: s.inputs := rfl
@[simp] theorem State.offer_emitted (e : InEvent) (s : State) : (s.offer e).emitted = s.emitted := rfl
@[simp] theorem State.offer_taken (e : InEvent) (s : State) : (s.offer e).taken = s.taken := rfl
@[simp] theorem State.offer_epoch (e : InEvent) (s : State) : (s.offer e).epoch = s.epoch := rfl

@[simp] theorem State.drive_mark141 (ts : List Token) (s : State) : (s.drive ts).mark141 = s.mark141 := rfl
@[simp] theorem State.drive_sync (ts : List Token) (s : State) : (s.drive ts).sync = s.sync := rfl
@[simp] theorem State.drive_src (ts : List Token) (s : State) : (s.drive ts).src = s.src := rfl
@[simp] theorem State.drive_rc (ts : List Token) (s : State) : (s.drive ts).rc = s.rc := rfl
@[simp] theorem State.drive_cnt (ts : List Token) (s : State) : (s.drive ts).cnt = s.cnt := rfl
@[simp] theorem State.drive_buf (ts : List Token) (s : State) : (s.drive ts).buf = s.buf := rfl
@[simp] theorem State.drive_outValid (ts : List Token) (s : State) : (s.drive ts).outValid = s.outValid := rfl
@[simp] theorem State.drive_outReg (ts : List Token) (s : State) : (s.drive ts).outReg = s.outReg := rfl
@[simp] theorem State.drive_inputs (ts : List Token) (s : State) : (s.drive ts).inputs = ts.flatMap Token.pins := rfl
@[simp] theorem State.drive_emitted (ts : List Token) (s : State) : (s.drive ts).emitted = s.emitted := rfl
@[simp] theorem State.drive_taken (ts : List Token) (s : State) : (s.drive ts).taken = s.taken := rfl
@[simp] theorem State.drive_epoch (ts : List Token) (s : State) : (s.drive ts).epoch = s.epoch := rfl

/-! The transaction-level part of a state. -/

@[simp] theorem State.block_sync (s : State) : s.block.sync = s.sync := rfl
@[simp] theorem State.block_src (s : State) : s.block.src = s.src := rfl
@[simp] theorem State.block_rc (s : State) : s.block.rc = s.rc := rfl
@[simp] theorem State.block_cnt (s : State) : s.block.cnt = s.cnt := rfl
@[simp] theorem State.block_buf (s : State) : s.block.buf = s.buf := rfl

end Sys2Proof.Machine
end

