-- ==== Sys2Proof/Laws/Ops.lean ====
section
/-! SUPPORT. For each shared operation, one lemma that says everything it can do; proofs cite these instead of unfolding. -/

namespace Sys2Proof.Machine

/-! `transact`: when a transfer runs, and when it is refused. -/

theorem transact_eq_next_iff (i : Instr) (effect : State → State) (s s' : State) :
    transact i effect s = .next s' ↔
      s.outValid = false ∧ i.appliesIn s.mark141 s.sync s.cnt = true ∧ s' = effect s := by
  unfold transact
  cases s.outValid <;> cases i.appliesIn s.mark141 s.sync s.cnt <;> simp [eq_comm]

theorem transact_of_applies {i : Instr} {s : State} (effect : State → State) (hv : s.outValid = false)
    (ha : i.appliesIn s.mark141 s.sync s.cnt = true) : transact i effect s = .next (effect s) :=
  (transact_eq_next_iff i effect s _).2 ⟨hv, ha, rfl⟩

theorem transact_of_held {i : Instr} {s : State} (effect : State → State) (hv : s.outValid = true) :
    transact i effect s = .refused .outputHeld := by
  simp [transact, hv]

theorem transact_of_not_applies {i : Instr} {s : State} (effect : State → State) (hv : s.outValid = false)
    (ha : i.appliesIn s.mark141 s.sync s.cnt = false) : transact i effect s = .refused .outsideItsState := by
  simp [transact, hv, ha]

/-- What each class does to the state it runs in: the second argument its meaning gives `transact`. -/
def effectOf : Instr → State → State
  | .needmore _ => fun s => s
  | .framePreR0 => State.latchFrame .preRecorded 0
  | .framePreR1 => State.latchFrame .preRecorded 1
  | .framePreR2 => State.latchFrame .preRecorded 2
  | .framePreR3 => State.latchFrame .preRecorded 3
  | .framePreR4 => State.latchFrame .preRecorded 4
  | .framePreR5 => State.latchFrame .preRecorded 5
  | .framePreR6 => State.latchFrame .preRecorded 6
  | .frameLiveR0 => State.latchFrame .live 0
  | .frameLiveR1 => State.latchFrame .live 1
  | .frameLiveR2 => State.latchFrame .live 2
  | .frameLiveR3 => State.latchFrame .live 3
  | .frameLiveR4 => State.latchFrame .live 4
  | .frameLiveR5 => State.latchFrame .live 5
  | .frameLiveR6 => State.latchFrame .live 6
  | .endMarker => State.emit (.endMarker 0x90)
  | .endUnconf => State.emit (.endUnconfirmed 0x8D)
  | .unknown b => State.emit (.unknownMarker b)
  | .payloadByte b => fun s => (s.writeBuf b).countByte
  | .payloadLast b => fun s => ((s.writeBuf b).resync).emit (decodeEvent (s.framePayload b) s.src s.rc)
  | .abort => fun s => (s.resync).emit s.abortEvent

/-- Every meaning is `transact` of its class's effect. -/
theorem exec_eq_transact (i : Instr) (s : State) : exec i s = transact i (effectOf i) s := by
  cases i <;> rfl

/-! `edge`: what one rising edge is, by the input ports. -/

theorem edge_of_no_sample {s : State} (h : s.inputs = []) : s.edge = .quiet s := by
  simp [State.edge, h]

theorem edge_of_reset {s : State} {p : Pins} {rest : List Pins} (h : s.inputs = p :: rest) (hr : p.rst = true) :
    s.edge = .quiet { s.resetEdge with inputs := rest } := by
  simp [State.edge, h, hr]

theorem edge_of_held {s : State} {p : Pins} {rest : List Pins} (h : s.inputs = p :: rest) (hr : p.rst = false)
    (hv : s.outValid = true) :
    s.edge = .quiet (if p.outReady then (s.afterSample rest).takeEvent else s.afterSample rest) := by
  simp [State.edge, h, hr, hv]

theorem edge_of_offer {s : State} {p : Pins} {rest : List Pins} (h : s.inputs = p :: rest) (hr : p.rst = false)
    (hv : s.outValid = false) (hi : p.inValid = true) : s.edge = .transfer p.transfer (s.afterSample rest) := by
  simp [State.edge, h, hr, hv, hi]

theorem edge_of_idle {s : State} {p : Pins} {rest : List Pins} (h : s.inputs = p :: rest) (hr : p.rst = false)
    (hv : s.outValid = false) (hi : p.inValid = false) : s.edge = .quiet (s.afterSample rest) := by
  simp [State.edge, h, hr, hv, hi]

/-- An edge accepts a transfer exactly where one is offered and the block is ready (30_encoding.md R91). -/
theorem edge_eq_transfer {s t : State} {e : InEvent} (h : s.edge = .transfer e t) :
    ∃ p rest, s.inputs = p :: rest ∧ p.rst = false ∧ s.outValid = false ∧ p.inValid = true ∧ e = p.transfer ∧
      t = s.afterSample rest := by
  unfold State.edge at h
  split at h
  · cases h
  · rename_i p rest hin
    refine ⟨p, rest, hin, ?_⟩
    split at h
    · cases h
    · split at h
      · cases h
      · split at h
        · cases h; simp_all
        · cases h

/-- Every edge that accepts no transfer: nothing left, reset, stalled, taken, or idle. -/
theorem edge_eq_quiet {s t : State} (h : s.edge = .quiet t) :
    (s.inputs = [] ∧ t = s) ∨
      ∃ p rest, s.inputs = p :: rest ∧
        ((p.rst = true ∧ t = { s.resetEdge with inputs := rest }) ∨
          (p.rst = false ∧ s.outValid = true ∧ p.outReady = true ∧ t = (s.afterSample rest).takeEvent) ∨
          (p.rst = false ∧ s.outValid = true ∧ p.outReady = false ∧ t = s.afterSample rest) ∨
          (p.rst = false ∧ s.outValid = false ∧ p.inValid = false ∧ t = s.afterSample rest)) := by
  unfold State.edge at h
  split at h
  · cases h; exact .inl ⟨by assumption, rfl⟩
  · rename_i p rest hin
    refine .inr ⟨p, rest, hin, ?_⟩
    split at h
    · cases h; simp_all
    · split at h
      · cases h; cases hr : p.outReady <;> simp_all
      · split at h
        · cases h
        · cases h; simp_all

/-! `step`: its two forms that answer a next state, and one lemma that says there are no others. -/

theorem step_of_quiet {s t : State} (h : s.edge = .quiet t) : step s = .next t := by
  simp [step, h]

theorem step_of_transfer {s t : State} {e : InEvent} {i : Instr} (h : s.edge = .transfer e t)
    (hd : decode t.mark141 t.sync t.cnt e = some i) : step s = exec i t := by
  simp [step, h, hd]

theorem step_cases {s s' : State} (h : step s = .next s') :
    s.edge = .quiet s' ∨
      ∃ e t i, s.edge = .transfer e t ∧ decode t.mark141 t.sync t.cnt e = some i ∧ t.outValid = false ∧
        i.appliesIn t.mark141 t.sync t.cnt = true ∧ s' = effectOf i t := by
  unfold step at h
  split at h
  · rename_i after he
    cases h; exact .inl he
  · rename_i e t he
    split at h
    · rename_i i hd
      rw [exec_eq_transact] at h
      obtain ⟨hv, ha, rfl⟩ := (transact_eq_next_iff _ _ _ _).1 h
      exact .inr ⟨e, t, i, he, hd, hv, ha, rfl⟩
    · cases h

/-! The payload buffer. -/

/-- Reading the buffer after the write: the byte just written at the count, every other byte as before. -/
theorem writeBuf_get (b : Byte) (s : State) (k : Nat) (h : k < 17) :
    (s.writeBuf b).buf[k] = if k = s.cnt.toNat then b else s.buf[k] := by
  simp [Vector.getElem_setIfInBounds, eq_comm]

end Sys2Proof.Machine
end

