-- ==== Sys2Proof/Laws/PerInstr.lean ====
section
/-! SUPPORT. Statements about every instruction, one lemma for each constructor of `Instr`. -/

namespace Sys2Proof.Laws.HasHomeState

/-- Every well-formed class has a sequencer state in which its row applies, with a payload count that a run reaches
(30_encoding.md R75; 10_state.md R21). -/
def Statement (i : Instr) : Prop :=
  ∀ m : Mark141, i.wf m = true → ∃ (sync : Sync) (cnt : BitVec 5), cnt.toNat ≤ 16 ∧ i.appliesIn m sync cnt = true

theorem needmore (b : Byte) : Statement (.needmore b) :=
  fun _ _ => ⟨.awaitingSync, 0, by decide, rfl⟩

theorem framePreR0 : Statement .framePreR0 :=
  fun _ _ => ⟨.awaitingSync, 0, by decide, rfl⟩

theorem framePreR1 : Statement .framePreR1 :=
  fun _ _ => ⟨.awaitingSync, 0, by decide, rfl⟩

theorem framePreR2 : Statement .framePreR2 :=
  fun _ _ => ⟨.awaitingSync, 0, by decide, rfl⟩

theorem framePreR3 : Statement .framePreR3 :=
  fun _ _ => ⟨.awaitingSync, 0, by decide, rfl⟩

theorem framePreR4 : Statement .framePreR4 :=
  fun _ _ => ⟨.awaitingSync, 0, by decide, rfl⟩

theorem framePreR5 : Statement .framePreR5 :=
  fun _ _ => ⟨.awaitingSync, 0, by decide, rfl⟩

theorem framePreR6 : Statement .framePreR6 :=
  fun _ _ => ⟨.awaitingSync, 0, by decide, rfl⟩

theorem frameLiveR0 : Statement .frameLiveR0 :=
  fun _ _ => ⟨.awaitingSync, 0, by decide, rfl⟩

theorem frameLiveR1 : Statement .frameLiveR1 :=
  fun _ _ => ⟨.awaitingSync, 0, by decide, rfl⟩

theorem frameLiveR2 : Statement .frameLiveR2 :=
  fun _ _ => ⟨.awaitingSync, 0, by decide, rfl⟩

theorem frameLiveR3 : Statement .frameLiveR3 :=
  fun _ _ => ⟨.awaitingSync, 0, by decide, rfl⟩

theorem frameLiveR4 : Statement .frameLiveR4 :=
  fun _ _ => ⟨.awaitingSync, 0, by decide, rfl⟩

theorem frameLiveR5 : Statement .frameLiveR5 :=
  fun _ _ => ⟨.awaitingSync, 0, by decide, rfl⟩

theorem frameLiveR6 : Statement .frameLiveR6 :=
  fun _ _ => ⟨.awaitingSync, 0, by decide, rfl⟩

theorem endMarker : Statement .endMarker :=
  fun _ _ => ⟨.awaitingSync, 0, by decide, rfl⟩

theorem endUnconf : Statement .endUnconf :=
  fun _ h => ⟨.awaitingSync, 0, by decide, by simpa [Instr.appliesIn, Instr.wf] using h⟩

theorem unknown (b : Byte) : Statement (.unknown b) :=
  fun _ _ => ⟨.awaitingSync, 0, by decide, rfl⟩

theorem payloadByte (b : Byte) : Statement (.payloadByte b) :=
  fun _ _ => ⟨.payloadExpected, 0, by decide, rfl⟩

theorem payloadLast (b : Byte) : Statement (.payloadLast b) :=
  fun _ _ => ⟨.payloadExpected, 16, by decide, rfl⟩

theorem abort : Statement .abort :=
  fun _ _ => ⟨.awaitingSync, 0, by decide, rfl⟩

end Sys2Proof.Laws.HasHomeState
end

