-- ==== Sys2Proof/Laws/Run.lean ====
section
/-! SUPPORT. Runs of the machine: what a step does by its token, one edge more, and the induction over a run packaged
once, for a predicate of states and for a relation between two runs. -/

namespace Sys2Proof.Machine

theorem core_run_zero (s : State) : Sys2Proof.core.run 0 s = .next s := rfl

theorem core_run_succ_of_next {n : Nat} {s t : State} (h : step s = .next t) :
    Sys2Proof.core.run (n + 1) s = Sys2Proof.core.run n t := by
  have e : Sys2Proof.core.step s = .next t := h
  simp only [Host.Core.run, e]

theorem core_run_succ_eq_next {n : Nat} {s s' : State} (h : Sys2Proof.core.run (n + 1) s = .next s') :
    ∃ t, step s = .next t ∧ Sys2Proof.core.run n t = .next s' := by
  simp only [Host.Core.run] at h
  cases hs : Sys2Proof.core.step s with
  | next t => rw [hs] at h; exact ⟨t, hs, h⟩
  | fault r => rw [hs] at h; cases h
  | refused r => rw [hs] at h; cases h

/-- A run of `n + k` edges is a run of `n` and then one of `k`. -/
theorem core_run_add {n k : Nat} {s t : State} (h : Sys2Proof.core.run n s = .next t) :
    Sys2Proof.core.run (n + k) s = Sys2Proof.core.run k t := by
  induction n generalizing s with
  | zero => cases h; rw [Nat.zero_add]
  | succ n ih =>
    obtain ⟨u, hu, hr⟩ := core_run_succ_eq_next h
    rw [Nat.add_right_comm, core_run_succ_of_next hu, ih hr]

/-- What a step does, by the token of its edge: nothing at transaction level (then an event may leave), a reset, or the effect of
the decoded class. -/
theorem step_tokens_cases {s s' : State} (h : step s = .next s') :
    (s.tokens = [] ∧ s'.block = s.block ∧ s'.mark141 = s.mark141 ∧ s'.emitted = s.emitted ∧
      ((s'.outValid = s.outValid ∧ s'.outReg = s.outReg ∧ s'.taken = s.taken) ∨
        (s.outValid = true ∧ s'.outValid = false ∧ s'.taken = s.taken ++ [s.outReg]))) ∨
    (s.tokens = [.reset] ∧ ∃ rest, s' = { s.resetEdge with inputs := rest }) ∨
    (∃ e rest i, s.tokens = [.transfer e] ∧ s.outValid = false ∧ decode s.mark141 s.sync s.cnt e = some i ∧
      i.appliesIn s.mark141 s.sync s.cnt = true ∧ s' = effectOf i (s.afterSample rest)) := by
  rcases step_cases h with hq | ⟨e, t, i, he, hd, hv, ha, rfl⟩
  · rcases edge_eq_quiet hq with
      ⟨hi, rfl⟩ | ⟨p, rest, hi, ⟨hr, rfl⟩ | ⟨hr, hv, ho, rfl⟩ | ⟨hr, hv, ho, rfl⟩ | ⟨hr, hv, hn, rfl⟩⟩
    · left; simp [State.tokens, hi]
    · right; left; exact ⟨by simp [State.tokens, hi, hr], rest, rfl⟩
    · left; simp [State.tokens, hi, hr, hq, State.block, hv]
    · left; simp [State.tokens, hi, hr, hq, State.block]
    · left; simp [State.tokens, hi, hr, hq, State.block]
  · obtain ⟨p, rest, hi, hr, hv', hn, rfl, rfl⟩ := edge_eq_transfer he
    exact .inr (.inr ⟨p.transfer, rest, i, by simp [State.tokens, hi, hr, he], hv', hd, ha, rfl⟩)

/-- The tokens of a run: those of its first edge, then those of the rest. -/
theorem runTokens_succ_of_next {n : Nat} {s t : State} (h : step s = .next t) :
    runTokens (n + 1) s = s.tokens ++ runTokens n t := by
  simp only [runTokens, h]

/-- What every step keeps, every run keeps. -/
theorem core_run_keeps {P : State → Prop} (keep : ∀ s s', P s → step s = .next s' → P s') {n : Nat} {s s' : State}
    (hp : P s) (h : Sys2Proof.core.run n s = .next s') : P s' := by
  induction n generalizing s with
  | zero => cases h; exact hp
  | succ n ih =>
    obtain ⟨t, ht, hr⟩ := core_run_succ_eq_next h
    exact ih (keep s t hp ht) hr

/-- A relation that one step carries along, a run carries along. -/
theorem core_run_simulates {R : State → State → Prop}
    (sim : ∀ s t s', R s t → step s = .next s' → ∃ t', step t = .next t' ∧ R s' t') {n : Nat} {s t s' : State}
    (hr : R s t) (h : Sys2Proof.core.run n s = .next s') : ∃ t', Sys2Proof.core.run n t = .next t' ∧ R s' t' := by
  induction n generalizing s t with
  | zero => cases h; exact ⟨t, rfl, hr⟩
  | succ n ih =>
    obtain ⟨u, hu, hru⟩ := core_run_succ_eq_next h
    obtain ⟨v, hv, hrv⟩ := sim s t u hr hu
    obtain ⟨t', ht', hr'⟩ := ih hrv hru
    exact ⟨t', by rw [core_run_succ_of_next hv, ht'], hr'⟩

end Sys2Proof.Machine
end

