-- ==== Sys2Proof/Tests/Slice0.lean ====
section
/-! SUPPORT. The model's own tests: each expected value is from spec/95_test_vectors.md or spec/opcode_table.json (named at the
test), and for each statement with hypotheses a witness that meets them. -/

namespace Sys2Proof.Tests
open Sys2Proof Sys2Proof.Machine

/-! ## Helpers -/

/-- The state one step later; the state itself where the step does not answer one. -/
def after (s : State) : State :=
  match step s with
  | .next t => t
  | _ => s

/-- The state one instruction later; the state itself where it is refused. -/
def ran (i : Instr) (s : State) : State :=
  match exec i s with
  | .next t => t
  | _ => s

/-- A state in the middle of a Live frame of range code 2, with `k` payload bytes captured. -/
def inFrame (k : BitVec 5) : State := { State.reset with sync := .payloadExpected, rc := 2, cnt := k }

/-- The payload of vectors V-E1 and V-E2. -/
def payloadE : Payload := #v[8, 0, 4, 8, 2, 1, 7, 0, 7, 7, 1, 1, 6, 0, 8, 5, 2]

/-- Base payload Q of L2.7. -/
def payloadQ : Payload := payloadE.set 0 0

/-- A Live frame of range code 6 with sixteen bytes of V-E2 captured, as in the last rows of L2.2. -/
def lastOfE : State := { inFrame 16 with rc := 6, buf := payloadE.set 16 0 }

/-- A payload with the digits of a timestamp, in the order of L2.8. -/
def stamp (y1 y0 m1 m0 d1 d0 h1 h0 n1 n0 s1 s0 : Byte) : Payload :=
  #v[0, 0, 0, 0, 0, y1, y0, m1, m0, d1, d0, h1, h0, n1, n0, s1, s0]

/-- A state that holds an event while `C8` is offered, as at edge 2 of L2.12. -/
def stalled (ready : Bool) : State :=
  { State.reset with
    outValid := true, outReg := .endMarker 0x90, emitted := [.endMarker 0x90]
    inputs := [{ Pins.offer (.byte 0xC8) with outReady := ready }, Pins.offer (.byte 0xC8)] }

/-- The sample of a reset edge at which a transfer is offered and the consumer is ready. -/
def resetPins : Pins := { rst := true, inValid := true, inAbort := false, inData := 0xA2, outReady := true }

/-- An idle sample. -/
def idlePins : Pins := { rst := false, inValid := false, inAbort := false, inData := 0, outReady := false }

/-! ## WellFormed: an ill-formed term for each check -/

theorem test_wf_refuses_needmore_with_bit7 : Instr.wf .distinctEnd (.needmore 0x80) = false := by decide
theorem test_wf_refuses_unknown_without_bit7 : Instr.wf .distinctEnd (.unknown 0x05) = false := by decide
theorem test_wf_refuses_unknown_frame_pre : Instr.wf .distinctEnd (.unknown 0x86) = false := by decide
theorem test_wf_refuses_unknown_frame_live : Instr.wf .distinctEnd (.unknown 0xA0) = false := by decide
theorem test_wf_refuses_unknown_end : Instr.wf .unknown (.unknown 0x90) = false := by decide
theorem test_wf_refuses_unknown_8D_when_distinct : Instr.wf .distinctEnd (.unknown 0x8D) = false := by decide
theorem test_wf_refuses_end_unconf_when_unknown : Instr.wf .unknown .endUnconf = false := by decide
theorem test_wf_accepts_unknown_8D_when_unknown : Instr.wf .unknown (.unknown 0x8D) = true := by decide

/-! ## Decode: a word of every row, from the encoding column of spec/opcode_table.json -/

theorem test_decode_needmore : decodeTableWord 8 0b00000000 = some (.needmore 0) := by decide
theorem test_decode_frame_pre :
    [0b10000000, 0b10000001, 0b10000010, 0b10000011, 0b10000100, 0b10000101, 0b10000110].map (decodeTableWord 8) =
      [some .framePreR0, some .framePreR1, some .framePreR2, some .framePreR3, some .framePreR4, some .framePreR5,
        some .framePreR6] := by decide
theorem test_decode_frame_live :
    [0b10100000, 0b10100001, 0b10100010, 0b10100011, 0b10100100, 0b10100101, 0b10100110].map (decodeTableWord 8) =
      [some .frameLiveR0, some .frameLiveR1, some .frameLiveR2, some .frameLiveR3, some .frameLiveR4, some .frameLiveR5,
        some .frameLiveR6] := by decide
theorem test_decode_end : decodeTableWord 8 0b10010000 = some .endMarker := by decide
theorem test_decode_end_unconf : decodeTableWord 8 0b10001101 = some .endUnconf := by decide
theorem test_decode_unknown : decodeTableWord 8 0b11001000 = some (.unknown 0xC8) := by decide
/-- The word of the UNKNOWN row with its free bits 0 is FRAME_PRE_R0: priority 2 before priority 3 (R75). -/
theorem test_decode_unknown_row_zero_bits_is_frame_pre : decodeTableWord 8 0b10000000 = some .framePreR0 := by decide
theorem test_decode_payload_byte :
    decode .distinctEnd .payloadExpected 15 (.byte 0b10010000) = some (.payloadByte 0x90) := by decide
theorem test_decode_payload_last :
    decode .distinctEnd .payloadExpected 16 (.byte 0b10001101) = some (.payloadLast 0x8D) := by decide
/-- `in_abort` is bit 8 of the port word, and `in_data` is ignored. -/
theorem test_decode_abort : decodeTableWord 16 0b110010000 = some .abort := by decide
/-- The fixed name for the host: the very next step from reset accepts the word. -/
theorem test_with_fetch_word_runs_next : (after (State.reset.withFetchWord 8 0xA6)).rc = 6 := by decide

/-! ## One step of each class (95_test_vectors.md) -/

/-- L2.1 rows 00 and 7F. -/
theorem test_needmore_unchanged :
    (after (State.reset.offer (.byte 0x7F))).block = State.reset.block ∧
      (after (State.reset.offer (.byte 0x00))).emitted = [] := by decide
/-- V-S3: state (1, 0, P, b - 0x80), no event. -/
theorem test_frame_pre_latches :
    ∀ r : BitVec 3, r.toNat ≤ 6 →
      (fun t : State => (t.sync, t.cnt, t.src, t.rc, t.emitted)) (after (State.reset.offer (.byte (0x80 + r.setWidth 8)))) =
        (.payloadExpected, 0, .preRecorded, r, []) := by decide
/-- V-S2: state (1, 0, L, b - 0xA0), no event. -/
theorem test_frame_live_latches :
    ∀ r : BitVec 3, r.toNat ≤ 6 →
      (fun t : State => (t.sync, t.cnt, t.src, t.rc, t.emitted))
          (after (({ State.reset with src := .preRecorded, rc := 6 } : State).offer (.byte (0xA0 + r.setWidth 8)))) =
        (.payloadExpected, 0, .live, r, []) := by decide
/-- V-S4. -/
theorem test_end_reported : (after (State.reset.offer (.byte 0x90))).emitted = [.endMarker 0x90] := by decide
/-- L2.1, the two rows of 8D. -/
theorem test_end_unconf_reported : (after (State.reset.offer (.byte 0x8D))).emitted = [.endUnconfirmed 0x8D] := by decide
theorem test_end_unconf_is_unknown_when_parameter_says :
    (after (({ State.reset with mark141 := .unknown } : State).offer (.byte 0x8D))).emitted = [.unknownMarker 0x8D] := by decide
/-- V-S13. -/
theorem test_unknown_reported :
    (after (State.reset.offer (.byte 0xC8))).emitted = [.unknownMarker 0xC8] ∧
      (after (State.reset.offer (.byte 0xC8))).block = State.reset.block := by decide
/-- L2.2 row `(1, 3, L, 2)`, A2: a marker value is payload. -/
theorem test_payload_byte_captures_marker_value :
    (fun t : State => (t.sync, t.cnt, t.rc, t.buf[3], t.emitted)) (after ((inFrame 3).offer (.byte 0xA2))) =
      (.payloadExpected, 4, 2, 0xA2, []) := by decide
/-- L2.2 row `(1, 15, L, 2)`, 05: the last PAYLOAD_BYTE. -/
theorem test_payload_byte_fifteen : (after ((inFrame 15).offer (.byte 5))).cnt = 16 := by decide
/-- V-E2 and L2.2: RECORD(L, 2017-07-31 16:08:52, 482, 0x08, 0x00, 30..130), state (0, 0, L, 6). -/
theorem test_payload_last_records :
    (fun t : State => (t.sync, t.cnt, t.src, t.rc, t.emitted)) (after (lastOfE.offer (.byte 2))) =
      (.awaitingSync, 0, .live, 6,
        [.record { source := .live, yy := 17, month := 7, day := 31, hour := 16, minute := 8, second := 52,
                   dbTenths := 482, flags := 0x08, unknownBits := 0x00, rangeLow := 30, rangeHigh := 130 }]) := by decide
/-- L2.2 last row: A4 as the last byte. -/
theorem test_payload_last_error :
    (after (lastOfE.offer (.byte 0xA4))).emitted = [.decodeError .live .invalidDigit] ∧
      (after (lastOfE.offer (.byte 0xA4))).sync = .awaitingSync := by decide
/-- V-S17. -/
theorem test_abort_in_payload :
    (fun t : State => (t.sync, t.cnt, t.rc, t.emitted)) (after ((inFrame 5).offer .abort)) =
      (.awaitingSync, 0, 2, [.transport .payload 5]) := by decide
/-- L2.10 second row. -/
theorem test_abort_in_sync :
    (fun t : State => (t.sync, t.src, t.rc, t.emitted))
        (after (({ State.reset with src := .preRecorded, rc := 6 } : State).offer .abort)) =
      (.awaitingSync, .preRecorded, 6, [.transport .sync 0]) := by decide

/-! ## The decoder's functions -/

/-- L2.3. -/
theorem test_flags_vectors :
    (flags 0x04 .preRecorded, flags 0x03 .preRecorded, flags 0x40 .live, flags 0xFF .live, flags 0xFF .preRecorded,
      unknownBits 0x88) = (0x0C, 0x0B, 0x40, 0x7F, 0x77, 0x80) := by decide
/-- V-E1: weighting C for PreRecorded, as the rules give it (90_conflicts.md C1). -/
theorem test_decode_pre_recorded :
    decodePayload payloadE .preRecorded 6 =
      .ok { source := .preRecorded, yy := 17, month := 7, day := 31, hour := 16, minute := 8, second := 52,
            dbTenths := 482, flags := 0x00, unknownBits := 0x00, rangeLow := 30, rangeHigh := 130 } := by decide
/-- L2.7. -/
theorem test_digit_check_vectors :
    (digitsOk payloadQ, digitsOk (payloadQ.set 1 0x0A), digitsOk (payloadQ.set 16 0x0A), digitsOk (payloadQ.set 9 0x30),
      digitsOk (payloadQ.set 0 0xFF)) = (true, false, false, false, true) := by decide
/-- L2.8: rows that decode. -/
theorem test_timestamp_valid_rows :
    timestamp (stamp 2 4 0 2 6 9 1 2 0 0 0 0) =
      some { yy := 24, month := 2, day := 29, hour := 12, minute := 0, second := 0 } ∧
    (timestamp (stamp 0 0 0 2 6 9 0 0 0 0 0 0)).map (·.day) = some 29 ∧
    (timestamp (stamp 2 1 0 4 7 0 0 0 0 0 0 0)).map (·.day) = some 30 ∧
    timestamp (stamp 9 9 1 2 7 1 2 3 5 9 5 9) =
      some { yy := 99, month := 12, day := 31, hour := 23, minute := 59, second := 59 } ∧
    (timestamp (stamp 1 6 0 7 4 3 0 0 0 0 0 0)).map (·.day) = some 3 := by decide
/-- L2.8: rows that are Invalid. -/
theorem test_timestamp_invalid_rows :
    [stamp 1 7 0 7 4 0 0 0 0 0 0 0, stamp 1 7 0 7 0 0 0 0 0 0 0 0, stamp 1 7 0 7 7 2 0 0 0 0 0 0,
      stamp 1 7 0 7 9 9 0 0 0 0 0 0, stamp 2 3 0 2 6 9 1 2 0 0 0 0, stamp 2 1 0 4 7 1 0 0 0 0 0 0,
      stamp 2 1 0 0 4 1 0 0 0 0 0 0, stamp 2 1 1 3 4 1 0 0 0 0 0 0, stamp 2 1 9 9 4 1 0 0 0 0 0 0,
      stamp 2 1 0 1 4 1 2 4 0 0 0 0, stamp 2 1 0 1 4 1 0 0 6 0 0 0, stamp 2 1 0 1 4 1 0 0 0 0 6 0].map timestamp =
      List.replicate 12 none := by decide
/-- L2.9. -/
theorem test_decode_error_priority :
    decodePayload ((payloadQ.set 7 1).set 8 3 |>.set 16 0x0A) .live 6 = .err .invalidDigit ∧
    decodePayload ((payloadQ.set 7 1).set 8 3) .live 7 = .err .invalidTimestamp ∧
    decodePayload payloadQ .live 7 = .err .invalidRange := by decide

/-! ## The ports (L2.12) -/

/-- Edge 2: stalled; edge 3: the consumer takes END_MARKER, and the waiting byte is not consumed. -/
theorem test_edges_stall_and_take :
    (after (stalled false)).outValid = true ∧ (after (stalled true)).outValid = false ∧
      (after (stalled true)).taken = [.endMarker 0x90] ∧ (after (stalled true)).emitted = [.endMarker 0x90] := by decide
/-- After edge 1: out_valid 1, out_tag 3, out_byte 0x90, in_ready 0. -/
theorem test_ports_after_end :
    (fun p : OutPorts => (p.outValid, p.inReady, p.event.outTag, p.event.outByte))
        ((after (State.reset.offer (.byte 0x90))).ports false) = (true, false, 3, 0x90) := by decide
/-- L2.11 second row, at the ports. -/
theorem test_reset_edge :
    (fun t : State => (t.sync, t.cnt, t.src, t.rc, t.outValid, t.emitted))
        (after { inFrame 9 with src := .preRecorded, rc := 4, inputs := [resetPins] }) =
      (.awaitingSync, 0, .live, 0, false, []) := by decide

/-! ## Witnesses: for each statement with hypotheses, values that meet them together -/

theorem test_witness_EncodeThenDecodeIsIdentity :
    Instr.wf .unknown (.unknown 0x8D) = true ∧ Instr.appliesIn .unknown .awaitingSync 0 (.unknown 0x8D) = true ∧
    Instr.wf .distinctEnd .endUnconf = true ∧ Instr.appliesIn .distinctEnd .awaitingSync 0 .endUnconf = true ∧
    Instr.appliesIn .unknown .payloadExpected 15 (.payloadByte 0x90) = true ∧
    Instr.appliesIn .unknown .payloadExpected 16 (.payloadLast 0xFF) = true := by decide
theorem test_witness_DecodedClassIsWellFormedAndTotal :
    decode .unknown .awaitingSync 31 (.byte 0x8D) = some (.unknown 0x8D) ∧
    decode .unknown .payloadExpected 17 .abort = some .abort ∧
    decode .unknown .payloadExpected 17 (.byte 0) = none := by decide
theorem test_witness_DecodeFollowsOpcodeTablePriority :
    (Sync.payloadExpected = Sync.payloadExpected → (16 : BitVec 5).toNat ≤ 16) := by decide
/-- The ends of every range of the marker table, under both values of the parameter. -/
theorem test_witness_ByteClassesAwaitingSync :
    [0x00, 0x7F, 0x80, 0x86, 0x87, 0x8C, 0x8D, 0x8E, 0x8F, 0x90, 0x91, 0x9F, 0xA0, 0xA6, 0xA7, 0xFF].map
        (classify .distinctEnd) =
      [.needMore, .needMore, .frame .preRecorded 0, .frame .preRecorded 6, .unknownMarker 0x87, .unknownMarker 0x8C,
        .endMarkerUnconfirmed, .unknownMarker 0x8E, .unknownMarker 0x8F, .endMarker, .unknownMarker 0x91,
        .unknownMarker 0x9F, .frame .live 0, .frame .live 6, .unknownMarker 0xA7, .unknownMarker 0xFF] ∧
    classify .unknown 0x8D = .unknownMarker 0x8D := by decide
theorem test_witness_FrameMarkerBitFields : classify .distinctEnd 0x83 = .frame .preRecorded 3 := by decide
theorem test_witness_StepRunsDecodedTransfer :
    (State.reset.offer (.byte 0x90)).inputs = Pins.offer (.byte 0x90) :: [] ∧ (Pins.offer (.byte 0x90)).rst = false ∧
    (State.reset.offer (.byte 0x90)).outValid = false ∧ (Pins.offer (.byte 0x90)).inValid = true ∧
    decode .distinctEnd .awaitingSync 0 (.byte 0x90) = some .endMarker := by decide
theorem test_witness_EdgeWithoutTransferHoldsTheBlock :
    State.reset.inputs = [] ∧ (stalled true).inputs ≠ [] ∧ (stalled true).outValid = true ∧
    (({ State.reset with inputs := [idlePins] } : State).inputs = idlePins :: [] ∧ idlePins.rst = false ∧
      State.reset.outValid = false ∧ idlePins.inValid = false) := by decide
theorem test_witness_ResetEdgeSetsResetState :
    ({ stalled true with inputs := [resetPins] } : State).inputs = resetPins :: [] ∧ resetPins.rst = true := by decide
theorem test_witness_ResetBeatsTransfersAndConsumer :
    ({ stalled true with inputs := [resetPins, resetPins] } : State).inputs = resetPins :: [resetPins] ∧
      resetPins.rst = true ∧ [resetPins] = resetPins :: [] := by decide
theorem test_witness_TransferRunsExactlyWhereItsRowApplies :
    exec .endMarker State.reset = .next (ran .endMarker State.reset) ∧
    exec .endMarker (stalled true) = .refused .outputHeld ∧
    exec .endMarker (inFrame 3) = .refused .outsideItsState := ⟨rfl, rfl, rfl⟩
theorem test_witness_EveryTransferEmitsAtMostOneEvent :
    exec (.unknown 0xC8) State.reset = .next (ran (.unknown 0xC8) State.reset) := rfl
/-- Also the state of the NEEDMORE, END, END_UNCONF (with DistinctEnd) and UNKNOWN statements. -/
theorem test_witness_FramePreLatchesSourceAndRange :
    State.reset.outValid = false ∧ State.reset.sync = .awaitingSync ∧ State.reset.mark141 = .distinctEnd := by decide
theorem test_witness_FrameLiveLatchesSourceAndRange :
    (after lastOfE).outValid = false ∧ ({ lastOfE with sync := .awaitingSync, cnt := 0 } : State).sync = .awaitingSync ∧
    ({ lastOfE with sync := .awaitingSync, cnt := 0 } : State).outValid = false := by decide
theorem test_witness_NeedmoreDiscardsTheByte :
    (0x7F : Byte).toNat ≤ 0x7F ∧ State.reset.block.sync = .awaitingSync ∧
      ∀ b ∈ ([0x00, 0x7F] : List Byte), b.toNat ≤ 0x7F := by decide
theorem test_witness_EndMarkerIsReported : (15 : BitVec 5).toNat < 16 := by decide
theorem test_witness_EndUnconfIsReportedApart :
    ({ State.reset with mark141 := .unknown } : State).mark141 = .unknown ∧
    ({ State.reset with mark141 := .unknown } : State).sync = .awaitingSync ∧
    ({ State.reset with mark141 := .unknown } : State).outValid = false := by decide
theorem test_witness_UnknownMarkerIsReported :
    (fun b : Byte => b.toNat ≥ 0x80 ∧ ¬(0x80 ≤ b.toNat ∧ b.toNat ≤ 0x86) ∧ ¬(0xA0 ≤ b.toNat ∧ b.toNat ≤ 0xA6) ∧
      b.toNat ≠ 0x90 ∧ ¬(b.toNat = 0x8D ∧ State.reset.mark141 = .distinctEnd)) 0x87 := by decide
theorem test_witness_PayloadByteIsCapturedAtCount :
    (inFrame 0).outValid = false ∧ (inFrame 0).sync = .payloadExpected ∧ (inFrame 15).cnt.toNat ≤ 15 := by decide
theorem test_witness_PayloadLastDecodesTheFrame :
    lastOfE.outValid = false ∧ lastOfE.sync = .payloadExpected ∧ lastOfE.cnt.toNat = 16 := by decide
theorem test_witness_AbortReportsAndResyncs :
    (State.reset.outValid = false ∧ State.reset.sync = .awaitingSync) ∧
    ((inFrame 16).outValid = false ∧ (inFrame 16).sync = .payloadExpected) := by decide
theorem test_witness_WeightingInvertedOnlyForPreRecorded : (2 : Nat) ≠ 3 := by decide
theorem test_witness_UnknownBitIsCapturedAndChangesNothingElse :
    (∃ r, decodePayload payloadQ .live 6 = .ok r) ∧ ∃ c, decodePayload payloadQ .live 7 = .err c :=
  ⟨⟨_, rfl⟩, ⟨_, rfl⟩⟩
theorem test_witness_BcdPairValue : (9 : Byte).toNat ≤ 9 := by decide
theorem test_witness_DecibelIsTheFourDigits :
    (∃ r, decodePayload payloadE .live 6 = .ok r) ∧ (∃ r, decodePayload payloadE .preRecorded 0 = .ok r) ∧
      (6 : BitVec 3).toNat ≤ 6 := ⟨⟨_, rfl⟩, ⟨_, rfl⟩, by decide⟩
theorem test_witness_EveryRecordFieldIsInRange : ∃ r, decodePayload payloadQ .preRecorded 3 = .ok r := ⟨_, rfl⟩
theorem test_witness_RangeTableEntries : (5 : BitVec 3).toNat ≤ 5 := by decide
theorem test_witness_InvalidRangeIsRejectedAndUnreachable :
    digitsOk payloadQ = true ∧ (timestamp payloadQ).isSome = true ∧ (lastOfE.offer (.byte 2)).Inv := by decide
theorem test_witness_InvalidRange_step :
    step (lastOfE.offer (.byte 2)) = .next (after (lastOfE.offer (.byte 2))) := rfl
theorem test_witness_TimestampFieldsFromDigits :
    digitsOk payloadQ = true ∧ ∃ t, timestamp payloadQ = some t := ⟨by decide, _, rfl⟩
/-- Rows of L2.8 for the clauses of R178 that are Invalid. -/
theorem test_witness_TimestampCornerCases_invalid :
    (fun p : Payload => p[9] = 4 ∧ p[10] = 0) (stamp 1 7 0 7 4 0 0 0 0 0 0 0) ∧
    (fun p : Payload => p[5] = 2 ∧ p[6] = 3 ∧ p[7] = 0 ∧ p[8] = 2 ∧ p[9] = 6 ∧ p[10] = 9) (stamp 2 3 0 2 6 9 1 2 0 0 0 0) ∧
    (fun p : Payload => p[7] = 0 ∧ p[8] = 4 ∧ p[9] = 7 ∧ p[10] = 1) (stamp 2 1 0 4 7 1 0 0 0 0 0 0) ∧
    (fun p : Payload => p[7] = 0 ∧ p[8] = 0) (stamp 2 1 0 0 4 1 0 0 0 0 0 0) ∧
    (fun p : Payload => p[7] = 1 ∧ p[8] = 3) (stamp 2 1 1 3 4 1 0 0 0 0 0 0) ∧
    (fun p : Payload => p[11] = 2 ∧ p[12] = 4) (stamp 2 1 0 1 4 1 2 4 0 0 0 0) ∧
    (fun p : Payload => p[13] = 6 ∧ p[14] = 0) (stamp 2 1 0 1 4 1 0 0 6 0 0 0) ∧
    (fun p : Payload => p[15] = 6 ∧ p[16] = 0) (stamp 2 1 0 1 4 1 0 0 0 0 6 0) := by decide
/-- The date of L2.8's last row, at 00:00:00 and at 23:59:59. -/
theorem test_witness_TimestampCornerCases_end_of_day :
    (∀ i : Fin 17, i.val < 11 → (stamp 2 1 0 1 4 1 2 3 5 9 5 9)[i] = (stamp 2 1 0 1 4 1 0 0 0 0 0 0)[i]) ∧
    (fun p : Payload => p[11] = 0 ∧ p[12] = 0 ∧ p[13] = 0 ∧ p[14] = 0 ∧ p[15] = 0 ∧ p[16] = 0)
      (stamp 2 1 0 1 4 1 0 0 0 0 0 0) ∧
    (fun q : Payload => q[11] = 2 ∧ q[12] = 3 ∧ q[13] = 5 ∧ q[14] = 9 ∧ q[15] = 5 ∧ q[16] = 9)
      (stamp 2 1 0 1 4 1 2 3 5 9 5 9) ∧
    timestamp (stamp 2 1 0 1 4 1 0 0 0 0 0 0) =
      some { yy := 21, month := 1, day := 1, hour := 0, minute := 0, second := 0 } := by decide
theorem test_witness_DaysInMonthAndLeapYears : (2000 : Nat) ≤ 2099 ∧ (2000 : Nat) ≤ 2000 := by decide
theorem test_witness_TimestampReadsOnlyItsDigits :
    (∀ i : Fin 17, 5 ≤ i.val → payloadE[i] = payloadQ[i]) ∧
    (∃ r, decodePayload payloadE .live 0 = .ok r) ∧ ∃ r, decodePayload payloadE .preRecorded 6 = .ok r :=
  ⟨by decide, ⟨_, rfl⟩, ⟨_, rfl⟩⟩
theorem test_witness_OutputPortsShowTheHeldEvent :
    State.reset.outValid = false ∧ (stalled true).outValid = true := by decide
theorem test_witness_OutputPortsDetermineTheEvent :
    eventPorts (.endMarker 0x90) = eventPorts (.endMarker 0x90) := rfl
theorem test_witness_StatusPortShowsTheSequencer :
    step (stalled true) = .next (after (stalled true)) ∧ (stalled true).tokens = [] := ⟨rfl, rfl⟩
theorem test_witness_EventsAreNeitherDroppedNorDuplicated :
    (stalled true).Conserved ∧ Token.reset ∉ (stalled true).tokens := by decide
theorem test_witness_Events_sublist :
    List.Sublist ((stalled true).taken ++ (stalled true).held) (stalled true).emitted := List.Sublist.refl _
/-- A stall by a held event that the consumer takes at its one edge. -/
theorem test_witness_StalledTransferStaysOffered :
    (stalled true).Offers (.byte 0xC8) ∧
    (∀ (k : Nat) (t : State), k < 1 → Sys2Proof.core.run k (stalled true) = .next t → t.Stalls ∧ t.TransportHolds) ∧
    Sys2Proof.core.run 1 (stalled true) = .next (after (stalled true)) ∧ Token.reset ∉ runTokens 1 (stalled true) := by
  refine ⟨⟨_, _, rfl, rfl, rfl⟩, fun k t hk h => ?_, rfl, by decide⟩
  obtain rfl : k = 0 := by omega
  cases h
  refine ⟨⟨_, _, rfl, rfl⟩, fun p rest hi _ _ => ?_⟩
  cases hi
  exact ⟨_, _, rfl, rfl, rfl, rfl⟩
/-- The stall ends: the event has left, and the next edge is ready. -/
theorem test_witness_Stalled_ends : ¬ (after (stalled true)).Stalls := by
  rintro ⟨p, rest, hi, hs⟩
  cases hi
  exact absurd hs (by decide)
/-- The invariant at a state in a payload, one that is about to decode, and one that holds an event. -/
theorem test_witness_EveryStepKeepsTheInvariant :
    (inFrame 0).Inv ∧ (lastOfE.offer (.byte 2)).Inv ∧ (stalled true).Inv := by decide
theorem test_witness_PayloadEndsEarlyOnlyByAbort :
    (inFrame 0).sync = .payloadExpected ∧ ((inFrame 15).offer (.byte 5)).cnt.toNat < 16 ∧
      (lastOfE.offer (.byte 2)).cnt.toNat ≤ 16 ∧
      ((inFrame 15).offer (.byte 5)).tokens = [.transfer (.byte 5)] := by decide
theorem test_witness_PayloadEndsEarly_step :
    step ((inFrame 15).offer (.byte 5)) = .next (after ((inFrame 15).offer (.byte 5))) ∧
    step ((inFrame 15).offer .abort) = .next (after ((inFrame 15).offer .abort)) ∧
    (after ((inFrame 15).offer .abort)).sync = .awaitingSync := ⟨rfl, rfl, rfl⟩
/-- The four kinds of token the sequencer statement speaks of. -/
theorem test_witness_SequencerMovesOnlyAsListed :
    (stalled true).tokens = [] ∧ ({ State.reset with inputs := [resetPins] } : State).tokens = [.reset] ∧
    ((inFrame 5).offer .abort).tokens = [.transfer .abort] ∧
    (lastOfE.offer (.byte 2)).tokens = [.transfer (.byte 2)] ∧ lastOfE.cnt.toNat = 16 ∧
    (State.reset.offer (.byte 0x86)).tokens = [.transfer (.byte 0x86)] ∧
    classify State.reset.mark141 0x86 = .frame .preRecorded 6 := by decide
theorem test_witness_BufferWrittenOnlyByPayloadBytes :
    (after ((inFrame 0).offer (.byte 5))).buf[(0 : Fin 17)] ≠ ((inFrame 0).offer (.byte 5)).buf[(0 : Fin 17)] := by decide
theorem test_witness_AwaitingSyncByteEffects :
    (State.reset.offer (.byte 0xC8)).sync = .awaitingSync ∧
      (State.reset.offer (.byte 0xC8)).tokens = [.transfer (.byte 0xC8)] := by decide
theorem test_witness_AwaitingSync_step :
    step (State.reset.offer (.byte 0xC8)) = .next (after (State.reset.offer (.byte 0xC8))) ∧
    ∀ kind rc, classify .distinctEnd 0xC8 ≠ .frame kind rc := ⟨rfl, fun _ _ h => by cases h⟩
theorem test_witness_PayloadEndsWithinSeventeenBytes :
    (inFrame 16).block.sync = .payloadExpected ∧ (inFrame 16).block.cnt.toNat ≤ 16 ∧
    ([2] : List Byte).length + (inFrame 16).block.cnt.toNat = 17 ∧
    ([2] : List Byte).length + (inFrame 15).block.cnt.toNat < 17 := by decide
theorem test_witness_WholeFrameEmitsItsDecode :
    (6 : BitVec 3).toNat ≤ 6 ∧ (State.reset.drive (Token.frame .live 6 payloadE)).sync = .awaitingSync ∧
    (State.reset.drive (Token.frame .live 6 payloadE)).outValid = false ∧
    (State.reset.drive (Token.frame .live 6 payloadE)).inputs =
      (Token.frame .live 6 payloadE).flatMap Token.pins ++ [] := ⟨by decide, rfl, rfl, (List.append_nil _).symm⟩
theorem test_witness_MarkerTakenAsLastByteIsADecodeError :
    State.reset.block.sync = .awaitingSync ∧ (6 : BitVec 3).toNat ≤ 6 ∧
    (List.replicate 16 (0 : Byte)).length = 16 ∧ (0xA4 : Byte).getLsbD 7 = true := by decide
theorem test_witness_ParameterChangesOnlyTheReportOfByte141 :
    (State.reset.offer (.byte 0x8D)).Mark141Twins (({ State.reset with mark141 := .unknown } : State).offer (.byte 0x8D)) ∧
    Sys2Proof.core.run 1 (State.reset.offer (.byte 0x8D)) = .next (after (State.reset.offer (.byte 0x8D))) :=
  ⟨⟨rfl, rfl, rfl, rfl, rfl, rfl, rfl, rfl, fun h => by cases h⟩, rfl⟩
/-- Two states that differ in `src`, `rc`, `buf` and the output register's bits. -/
theorem test_witness_StaleStateNeverReachesAnEvent :
    (State.reset.offer (.byte 0x90)).Alike
      (({ State.reset with src := .preRecorded, rc := 7, buf := payloadE, outReg := .endMarker 0x90, epoch := 5 } : State).offer
        (.byte 0x90)) ∧
    Sys2Proof.core.run 1 (State.reset.offer (.byte 0x90)) = .next (after (State.reset.offer (.byte 0x90))) :=
  ⟨⟨rfl, rfl, rfl, rfl, rfl, rfl, rfl, fun _ => by contradiction, fun _ => by contradiction⟩, rfl⟩
/-- A step that answers a next state, by a class that writes everything the three statements speak of. -/
theorem test_witness_ParameterNeverChanges :
    step (lastOfE.offer (.byte 2)) = .next (after (lastOfE.offer (.byte 2))) := rfl
theorem test_witness_SourceAndRangeWrittenOnlyByFrameMarkers :
    step (State.reset.offer (.byte 0x83)) = .next (after (State.reset.offer (.byte 0x83))) ∧
    (after (State.reset.offer (.byte 0x83))).src ≠ (State.reset.offer (.byte 0x83)).src := ⟨rfl, by decide⟩
theorem test_witness_RecordsComeOnlyFromTheSeventeenthByte :
    step (lastOfE.offer (.byte 0xA4)) = .next (after (lastOfE.offer (.byte 0xA4))) ∧
    (after (lastOfE.offer (.byte 0xA4))).emitted = (lastOfE.offer (.byte 0xA4)).emitted ++ [.decodeError .live .invalidDigit] :=
  ⟨rfl, by decide⟩
theorem test_witness_StepNeverFaultsOrStops : ((inFrame 16).offer .abort).Inv := by decide
theorem test_witness_PortRunIsTheTransactionFold :
    (lastOfE.offer (.byte 2)).Inv ∧ runTokens 1 (lastOfE.offer (.byte 2)) = [.transfer (.byte 2)] := by decide

end Sys2Proof.Tests
end

section
/-! SUPPORT. Facts about the decoder: which transfers have a class, and where that class's row applies
(30_encoding.md R75; 40_synchronizer.md R100, R110). -/

namespace Sys2Proof

/-- A marker classified as a frame has a range code of the table (40_synchronizer.md R101, R102). -/
theorem classify_frame_range {m : Mark141} {b : Byte} {kind : Source} {rc : BitVec 3}
    (h : classify m b = .frame kind rc) : rc.toNat ≤ 6 := by
  unfold classify at h
  split_ifs at h with _ hpre hlive
  · cases h
    simp only [Config.preBase] at hpre ⊢
    bv_omega
  · cases h
    simp only [Config.liveBase] at hlive ⊢
    bv_omega

/-- An unconfirmed end marker is byte 0x8D, and there is one only under `DistinctEnd` (40_synchronizer.md R106). -/
theorem classify_endUnconfirmed {m : Mark141} {b : Byte} (h : classify m b = .endMarkerUnconfirmed) :
    b = 0x8D ∧ m = .distinctEnd := by
  unfold classify at h
  split_ifs at h with _ _ _ _ hend
  exact hend

/-- Each of the seven range codes has its frame rows, one for each source (40_synchronizer.md R101, R102). -/
theorem frameInstr_of_range (kind : Source) {rc : BitVec 3} (h : rc.toNat ≤ 6) :
    ∃ i, frameInstr kind rc = some i := by
  have codes : ∀ c : BitVec 3, c.toNat ≤ 6 → (frameInstr kind c).isSome = true := by cases kind <;> decide
  exact Option.isSome_iff_exists.1 (codes rc h)

theorem frameInstr_appliesIn {kind : Source} {rc : BitVec 3} {i : Instr} (h : frameInstr kind rc = some i)
    (m : Mark141) (cnt : BitVec 5) : i.appliesIn m .awaitingSync cnt = true := by
  unfold frameInstr at h
  split at h <;> cases h <;> rfl

/-- A byte always has a class while sync is awaited, whatever the parameter (30_encoding.md R61). -/
theorem markerInstr_classify_total (m : Mark141) (b : Byte) : ∃ i, markerInstr b (classify m b) = some i := by
  cases hc : classify m b with
  | frame kind rc => exact frameInstr_of_range kind (classify_frame_range hc)
  | _ => exact ⟨_, rfl⟩

/-- Every transfer has a class while the payload count is one a run reaches (10_state.md R21). -/
theorem decode_total (m : Mark141) (sync : Sync) {cnt : BitVec 5} (e : InEvent) (h : cnt.toNat ≤ 16) :
    ∃ i, decode m sync cnt e = some i := by
  cases e with
  | abort => exact ⟨.abort, rfl⟩
  | byte b =>
    cases sync with
    | awaitingSync => exact markerInstr_classify_total m b
    | payloadExpected =>
      rcases h.lt_or_eq with hlt | heq
      · exact ⟨.payloadByte b, by simp [decode, payloadInstr, hlt]⟩
      · exact ⟨.payloadLast b, by simp [decode, payloadInstr, heq]⟩

/-- Whether a transfer has a class does not depend on the parameter. -/
theorem decode_total_of_decode {m : Mark141} {sync : Sync} {cnt : BitVec 5} {e : InEvent} {i : Instr}
    (h : decode m sync cnt e = some i) (m' : Mark141) : ∃ j, decode m' sync cnt e = some j := by
  cases e with
  | abort => exact ⟨.abort, rfl⟩
  | byte b =>
    cases sync with
    | awaitingSync => exact markerInstr_classify_total m' b
    | payloadExpected => exact ⟨i, h⟩

/-- The row of the class a transfer decodes to applies where it was decoded (30_encoding.md R75). -/
theorem decode_appliesIn {m : Mark141} {sync : Sync} {cnt : BitVec 5} {e : InEvent} {i : Instr}
    (h : decode m sync cnt e = some i) : i.appliesIn m sync cnt = true := by
  cases e with
  | abort => cases h; rfl
  | byte b =>
    cases sync with
    | payloadExpected =>
      simp only [decode, payloadInstr] at h
      split_ifs at h with hlt heq <;> cases h
      · simp [Instr.appliesIn, hlt]
      · simp [Instr.appliesIn, heq]
    | awaitingSync =>
      simp only [decode] at h
      cases hc : classify m b with
      | frame kind rc => rw [hc] at h; exact frameInstr_appliesIn h m cnt
      | endMarkerUnconfirmed =>
        rw [hc] at h; cases h
        simp [Instr.appliesIn, (classify_endUnconfirmed hc).2]
      | needMore | endMarker | unknownMarker c => rw [hc] at h; cases h; rfl

end Sys2Proof
end

section
/-! SUPPORT. The effect of a decoded class is the transaction-level step (00_scope.md R8; 40_synchronizer.md R110):
both sides of the port boundary in one equation, which the later proofs cite instead of the 21 classes. -/

namespace Sys2Proof.Machine

/-- The state with its transaction-level part replaced. -/
def State.withBlock (st : Block) (s : State) : State :=
  { s with sync := st.sync, src := st.src, rc := st.rc, cnt := st.cnt, buf := st.buf }

/-- What a transaction-level step leaves at the ports: its block, and its event, if there is one, emitted. -/
def State.commit (r : Block × Option OutEvent) (s : State) : State :=
  match r.2 with
  | none => s.withBlock r.1
  | some ev => (s.withBlock r.1).emit ev

@[simp] theorem State.commit_block (r : Block × Option OutEvent) (s : State) : (s.commit r).block = r.1 := by
  obtain ⟨st, _ | ev⟩ := r <;> rfl

@[simp] theorem State.commit_cnt (r : Block × Option OutEvent) (s : State) : (s.commit r).cnt = r.1.cnt :=
  congrArg Block.cnt (s.commit_block r)

@[simp] theorem State.commit_mark141 (r : Block × Option OutEvent) (s : State) : (s.commit r).mark141 = s.mark141 := by
  obtain ⟨st, _ | ev⟩ := r <;> rfl

@[simp] theorem State.commit_inputs (r : Block × Option OutEvent) (s : State) : (s.commit r).inputs = s.inputs := by
  obtain ⟨st, _ | ev⟩ := r <;> rfl

@[simp] theorem State.commit_taken (r : Block × Option OutEvent) (s : State) : (s.commit r).taken = s.taken := by
  obtain ⟨st, _ | ev⟩ := r <;> rfl

@[simp] theorem State.commit_epoch (r : Block × Option OutEvent) (s : State) : (s.commit r).epoch = s.epoch := by
  obtain ⟨st, _ | ev⟩ := r <;> rfl

@[simp] theorem State.commit_emitted (r : Block × Option OutEvent) (s : State) :
    (s.commit r).emitted = s.emitted ++ r.2.toList := by
  obtain ⟨st, _ | ev⟩ := r
  · exact (List.append_nil _).symm
  · rfl

/-! `Block.step`, one equation for each of its cases (00_scope.md R8). -/

theorem Block.step_abort (m : Mark141) (st : Block) :
    st.step m .abort = ({ st with sync := .awaitingSync, cnt := 0 },
      some (if st.sync = .awaitingSync then .transport .sync 0 else .transport .payload st.cnt)) := rfl

theorem Block.step_payloadByte {st : Block} (hs : st.sync = .payloadExpected) (hc : st.cnt.toNat < 16) (m : Mark141)
    (b : Byte) :
    st.step m (.byte b) = ({ st with buf := st.buf.setIfInBounds st.cnt.toNat b, cnt := st.cnt + 1 }, none) := by
  simp only [Block.step, if_pos hs, if_pos hc]

theorem Block.step_payloadLast {st : Block} (hs : st.sync = .payloadExpected) (hc : ¬ st.cnt.toNat < 16) (m : Mark141)
    (b : Byte) :
    st.step m (.byte b) =
      ({ st with buf := st.buf.setIfInBounds 16 b, sync := .awaitingSync, cnt := 0 },
        some (decodeEvent (st.buf.setIfInBounds 16 b) st.src st.rc)) := by
  simp only [Block.step, if_pos hs, if_neg hc]
  rfl

/-- What a classified byte does while sync is awaited (40_synchronizer.md R101 to R108). -/
def Block.marker (st : Block) : SyncResult → Block × Option OutEvent
  | .needMore => (st, none)
  | .frame kind rc => ({ st with sync := .payloadExpected, src := kind, rc := rc, cnt := 0 }, none)
  | .endMarker => (st, some (.endMarker 0x90))
  | .endMarkerUnconfirmed => (st, some (.endUnconfirmed 0x8D))
  | .unknownMarker c => (st, some (.unknownMarker c))

theorem Block.step_marker {st : Block} (hs : st.sync = .awaitingSync) (m : Mark141) (b : Byte) :
    st.step m (.byte b) = st.marker (classify m b) := by
  cases hc : classify m b <;> simp [Block.step, Block.marker, hs, hc]

/-! The effect of each class as a transaction-level step. -/

/-- A frame row's class latches the source and range code of its marker (40_synchronizer.md R101, R102). -/
theorem effectOf_frameInstr {kind : Source} {rc : BitVec 3} {i : Instr} (h : frameInstr kind rc = some i) :
    effectOf i = State.latchFrame kind rc := by
  have hcode : BitVec.ofNat 3 rc.toNat = rc := by simp
  rw [← hcode]
  unfold frameInstr at h
  split at h <;> cases h <;> rename_i hrc <;> rw [hrc] <;> rfl

/-- The class of a classified byte does what the classification says. -/
theorem effectOf_markerInstr {b : Byte} {r : SyncResult} {i : Instr} (h : markerInstr b r = some i) (s : State) :
    effectOf i s = s.commit (s.block.marker r) := by
  cases r with
  | frame kind rc => rw [effectOf_frameInstr h]; rfl
  | needMore | endMarker | endMarkerUnconfirmed | unknownMarker c => cases h; rfl

/-- The 17th byte's class decodes the buffer with this byte as byte 16 (41_payload_decoder.md R131). -/
theorem effectOf_payloadLast (b : Byte) {s : State} (h : s.cnt.toNat = 16) :
    effectOf (.payloadLast b) s =
      s.commit ({ s.block with buf := s.buf.setIfInBounds 16 b, sync := .awaitingSync, cnt := 0 },
        some (decodeEvent (s.buf.setIfInBounds 16 b) s.src s.rc)) := by
  rw [← h]; rfl

/-- An abort reports the phase and count before it (40_synchronizer.md R112; 30_encoding.md R84). -/
theorem effectOf_abort (m : Mark141) (s : State) : effectOf .abort s = s.commit (s.block.step m .abort) := by
  rw [Block.step_abort, State.block_sync]
  cases hs : s.sync <;> simp [effectOf, State.abortEvent, hs] <;> rfl

/-- The refinement of one transfer: the effect of the class it decodes to is the transaction-level step. -/
theorem effectOf_eq_commit {s : State} {e : InEvent} {i : Instr} (h : decode s.mark141 s.sync s.cnt e = some i) :
    effectOf i s = s.commit (s.block.step s.mark141 e) := by
  cases e with
  | abort => cases h; exact effectOf_abort s.mark141 s
  | byte b =>
    cases hs : s.sync with
    | awaitingSync =>
      rw [hs] at h
      rw [Block.step_marker hs]
      exact effectOf_markerInstr h s
    | payloadExpected =>
      simp only [hs, decode, payloadInstr] at h
      split_ifs at h with hlt heq <;> cases h
      · rw [Block.step_payloadByte hs hlt]; rfl
      · rw [Block.step_payloadLast hs hlt]; exact effectOf_payloadLast b heq

/-- The same where a transfer runs in a step: in the state whose sample the edge has used up. -/
theorem effectOf_afterSample {s : State} {e : InEvent} {i : Instr} (rest : List Pins)
    (hd : decode s.mark141 s.sync s.cnt e = some i) :
    effectOf i (s.afterSample rest) = (s.afterSample rest).commit (s.block.step s.mark141 e) :=
  effectOf_eq_commit (s := s.afterSample rest) hd

/-- No step changes the build-time parameter (10_state.md R31). -/
theorem step_mark141 {s s' : State} (h : step s = .next s') : s'.mark141 = s.mark141 := by
  rcases step_tokens_cases h with ⟨_, _, hm, _⟩ | ⟨_, rest, rfl⟩ | ⟨e, rest, i, _, _, hd, _, rfl⟩
  · exact hm
  · rfl
  · rw [effectOf_afterSample rest hd, State.commit_mark141]; rfl

/-- An accepted transfer that has a class is the transaction-level step. -/
theorem step_eq_commit {s t : State} {e : InEvent} {i : Instr} (h : s.edge = .transfer e t)
    (hd : decode t.mark141 t.sync t.cnt e = some i) : step s = .next (t.commit (t.block.step t.mark141 e)) := by
  obtain ⟨p, rest, _, _, hv, _, _, rfl⟩ := edge_eq_transfer h
  have hv' : (s.afterSample rest).outValid = false := hv
  rw [step_of_transfer h hd, exec_eq_transact, transact_of_applies _ hv' (decode_appliesIn hd), effectOf_eq_commit hd]

end Sys2Proof.Machine
end

section
/-! SUPPORT. The port-level run refines the fold of the transaction-level step (00_scope.md R8; 40_synchronizer.md R110):
`Block.Agrees` is the simulation relation, and each edge carries it along. -/

namespace Sys2Proof.Machine

theorem Block.Agrees.refl (a : Block) : a.Agrees a := ⟨rfl, rfl, rfl, rfl, fun _ _ => rfl⟩

/-- A reset leaves no delivered byte to compare, so the buffer contents do not matter (70_reset_and_hazards.md R230). -/
theorem Block.afterReset_agrees (p q : Payload) : (Block.afterReset p).Agrees (Block.afterReset q) :=
  ⟨rfl, rfl, rfl, rfl, fun _ h => absurd h (Nat.not_lt_zero _)⟩

/-- Payload byte `k` on buffers that agree below `k` leaves buffers that agree up to and including `k`. -/
theorem setIfInBounds_agree {p q : Payload} {k : Nat} (b : Byte) (h : ∀ i : Fin 17, i.val < k → p[i] = q[i])
    (i : Fin 17) (hi : i.val ≤ k) : (p.setIfInBounds k b)[i] = (q.setIfInBounds k b)[i] := by
  simp only [Fin.getElem_fin, Vector.getElem_setIfInBounds]
  split_ifs with hk
  · rfl
  · exact h i (lt_of_le_of_ne hi (Ne.symm hk))

/-- Agreeing blocks stay in agreement whatever byte they are sent as a marker, and report the same event. -/
theorem Block.Agrees.marker {a b : Block} (h : a.Agrees b) (r : SyncResult) :
    (a.marker r).1.Agrees (b.marker r).1 ∧ (a.marker r).2 = (b.marker r).2 := by
  cases r with
  | frame kind rc => exact ⟨⟨rfl, rfl, rfl, rfl, fun _ hi => absurd hi (Nat.not_lt_zero _)⟩, rfl⟩
  | needMore | endMarker | endMarkerUnconfirmed | unknownMarker c => exact ⟨h, rfl⟩

/-- Agreeing blocks stay in agreement over any transfer, and report the same event: an event reads delivered bytes
only. -/
theorem Block.Agrees.step {a b : Block} (h : a.Agrees b) (m : Mark141) (e : InEvent) :
    (a.step m e).1.Agrees (b.step m e).1 ∧ (a.step m e).2 = (b.step m e).2 := by
  obtain ⟨hsync, hsrc, hrc, hcnt, hbuf⟩ := id h
  cases e with
  | abort =>
    rw [Block.step_abort, Block.step_abort, hsync, hcnt]
    exact ⟨⟨rfl, hsrc, hrc, rfl, fun _ hi => absurd hi (Nat.not_lt_zero _)⟩, rfl⟩
  | byte x =>
    cases hs : a.sync with
    | awaitingSync =>
      rw [Block.step_marker hs, Block.step_marker (hsync ▸ hs)]
      exact h.marker _
    | payloadExpected =>
      by_cases hc : a.cnt.toNat < 16
      · rw [Block.step_payloadByte hs hc, Block.step_payloadByte (hsync ▸ hs) (hcnt ▸ hc), ← hcnt]
        refine ⟨⟨hsync, hsrc, hrc, rfl, fun i hi => setIfInBounds_agree x hbuf i ?_⟩, rfl⟩
        simp only at hi
        bv_omega
      · have hfull : a.buf.setIfInBounds 16 x = b.buf.setIfInBounds 16 x := by
          refine Vector.ext fun i hi => setIfInBounds_agree x (fun j hj => hbuf j ?_) ⟨i, hi⟩ (Nat.le_of_lt_succ hi)
          omega
        rw [Block.step_payloadLast hs hc, Block.step_payloadLast (hsync ▸ hs) (hcnt ▸ hc), hfull, hsrc, hrc]
        exact ⟨Block.Agrees.refl _, rfl⟩

theorem Block.run_singleton (m : Mark141) (st : Block) (t : Token) :
    st.run m [t] = ((st.token m t).1, (st.token m t).2.toList) := by
  simp [Block.run]

theorem Block.run_append (m : Mark141) (st : Block) (xs ys : List Token) :
    st.run m (xs ++ ys) =
      (((st.run m xs).1.run m ys).1, (st.run m xs).2 ++ ((st.run m xs).1.run m ys).2) := by
  induction xs generalizing st with
  | nil => rfl
  | cons x xs ih => simp only [List.cons_append, Block.run, ih, List.append_assoc]

/-- One edge carries the agreement along, and emits what the tokens of that edge emit. -/
theorem step_agrees {s s' : State} {st : Block} (ha : s.block.Agrees st) (h : step s = .next s') :
    s'.block.Agrees (st.run s.mark141 s.tokens).1 ∧ s'.emitted = s.emitted ++ (st.run s.mark141 s.tokens).2 := by
  rcases step_tokens_cases h with ⟨ht, hb, _, he, _⟩ | ⟨ht, rest, rfl⟩ | ⟨e, rest, i, ht, _, hd, _, rfl⟩
  · rw [ht, hb, he]
    exact ⟨ha, (List.append_nil _).symm⟩
  · rw [ht, Block.run_singleton]
    exact ⟨Block.afterReset_agrees _ _, (List.append_nil _).symm⟩
  · obtain ⟨hblock, hevent⟩ := ha.step s.mark141 e
    rw [ht, Block.run_singleton, effectOf_afterSample rest hd, State.commit_block, State.commit_emitted, hevent]
    exact ⟨hblock, rfl⟩

/-- A run from any state, and the fold from any block that agrees with it. -/
theorem core_run_agrees {n : Nat} {s s' : State} {st : Block} (ha : s.block.Agrees st)
    (h : Sys2Proof.core.run n s = .next s') :
    s'.block.Agrees (st.run s.mark141 (runTokens n s)).1 ∧
      s'.emitted = s.emitted ++ (st.run s.mark141 (runTokens n s)).2 := by
  induction n generalizing s st with
  | zero =>
    cases h
    exact ⟨ha, (List.append_nil _).symm⟩
  | succ n ih =>
    obtain ⟨t, hstep, hrun⟩ := core_run_succ_eq_next h
    obtain ⟨hat, het⟩ := step_agrees ha hstep
    obtain ⟨hblock, hemitted⟩ := ih hat hrun
    rw [step_mark141 hstep] at hblock hemitted
    rw [runTokens_succ_of_next hstep, Block.run_append]
    exact ⟨hblock, by rw [hemitted, het, List.append_assoc]⟩

/-- Settles O58: the simulation relation is `Block.Agrees`, by induction over the edges. -/
theorem portRunIsTheTransactionFold : Obligations.PortRunIsTheTransactionFold := by
  unfold Obligations.PortRunIsTheTransactionFold
  intro n s s' _ h
  exact core_run_agrees (Block.Agrees.refl s.block) h

end Sys2Proof.Machine
end

section
/-! SUPPORT. Two runs on the same inputs under the two values of `P_MARK141` (00_scope.md R11): `State.Mark141Twins` is
carried along by every edge. -/

namespace Sys2Proof.Machine

/-- The verdict on a byte under `Unknown`, from the one under `DistinctEnd`. -/
def renameResult : SyncResult → SyncResult
  | .endMarkerUnconfirmed => .unknownMarker 0x8D
  | r => r

theorem classify_unknown (b : Byte) : classify .unknown b = renameResult (classify .distinctEnd b) := by
  simp only [classify]
  split_ifs <;> simp_all [renameResult, Config.endUnconfByte]

theorem Block.marker_renameResult (st : Block) (r : SyncResult) :
    st.marker (renameResult r) = ((st.marker r).1, (st.marker r).2.map renameMark141) := by
  cases r <;> rfl

theorem renameMark141_decodeEvent (p : Payload) (src : Source) (rc : BitVec 3) :
    renameMark141 (decodeEvent p src rc) = decodeEvent p src rc := by
  unfold decodeEvent
  split <;> rfl

/-- Under `Unknown` a transaction-level step has the same block and the renamed event. -/
theorem Block.step_unknown (st : Block) (e : InEvent) :
    st.step .unknown e = ((st.step .distinctEnd e).1, (st.step .distinctEnd e).2.map renameMark141) := by
  cases e with
  | abort =>
    simp only [Block.step_abort, Option.map_some]
    split_ifs <;> rfl
  | byte b =>
    cases hs : st.sync with
    | awaitingSync => rw [Block.step_marker hs, Block.step_marker hs, classify_unknown, Block.marker_renameResult]
    | payloadExpected =>
      by_cases hc : st.cnt.toNat < 16
      · simp only [Block.step_payloadByte hs hc, Option.map_none]
      · simp only [Block.step_payloadLast hs hc, Option.map_some, renameMark141_decodeEvent]

/-! What an edge can do to twins, one lemma for each operation. -/

namespace State.Mark141Twins

theorem afterSample {s t : State} (h : s.Mark141Twins t) (rest : List Pins) :
    (s.afterSample rest).Mark141Twins (t.afterSample rest) := by
  obtain ⟨hms, hmt, hblock, hvalid, hinputs, hepoch, hemitted, htaken, hreg⟩ := h
  exact ⟨hms, hmt, hblock, hvalid, rfl, congrArg (· + 1) hepoch, hemitted, htaken, hreg⟩

/-- The free value of the buffer after a reset is the same in both runs: they are at the same draw. -/
theorem resetEdge {s t : State} (h : s.Mark141Twins t) (rest : List Pins) :
    ({ s.resetEdge with inputs := rest } : State).Mark141Twins { t.resetEdge with inputs := rest } := by
  obtain ⟨hms, hmt, -, -, -, hepoch, hemitted, htaken, -⟩ := h
  refine ⟨hms, hmt, ?_, rfl, rfl, hepoch, hemitted, htaken, fun hv => nomatch hv⟩
  simp only [State.block, State.resetEdge, hepoch]

theorem takeEvent {s t : State} (h : s.Mark141Twins t) (hv : s.outValid = true) :
    s.takeEvent.Mark141Twins t.takeEvent := by
  obtain ⟨hms, hmt, hblock, -, hinputs, hepoch, hemitted, htaken, hreg⟩ := h
  refine ⟨hms, hmt, hblock, rfl, hinputs, hepoch, hemitted, ?_, fun hv' => nomatch hv'⟩
  simp [htaken, hreg hv]

/-- Twins that accept the same transfer are twins after it. -/
theorem commit {s t : State} (h : s.Mark141Twins t) (e : InEvent) :
    (s.commit (s.block.step s.mark141 e)).Mark141Twins (t.commit (t.block.step t.mark141 e)) := by
  obtain ⟨hms, hmt, hblock, hvalid, hinputs, hepoch, hemitted, htaken, hreg⟩ := h
  rw [hms, hmt, hblock, Block.step_unknown]
  obtain ⟨st, _ | ev⟩ := s.block.step .distinctEnd e
  · exact ⟨hms, hmt, rfl, hvalid, hinputs, hepoch, hemitted, htaken, hreg⟩
  · refine ⟨hms, hmt, rfl, rfl, hinputs, hepoch, ?_, htaken, fun _ => rfl⟩
    simp [State.commit_emitted, hemitted]

/-- An edge without a transfer is one for both twins. -/
theorem step_of_quiet {s t s' : State} (h : s.Mark141Twins t) (hq : s.edge = .quiet s') :
    ∃ t', step t = .next t' ∧ s'.Mark141Twins t' := by
  obtain ⟨-, -, -, hvalid, hinputs, -⟩ := id h
  rcases edge_eq_quiet hq with
    ⟨hi, rfl⟩ | ⟨p, rest, hi, ⟨hr, rfl⟩ | ⟨hr, hv, ho, rfl⟩ | ⟨hr, hv, ho, rfl⟩ | ⟨hr, hv, hn, rfl⟩⟩ <;>
    rw [hi] at hinputs
  · exact ⟨t, Machine.step_of_quiet (edge_of_no_sample hinputs), h⟩
  · exact ⟨_, Machine.step_of_quiet (edge_of_reset hinputs hr), h.resetEdge rest⟩
  · refine ⟨_, Machine.step_of_quiet (edge_of_held hinputs hr (hvalid.trans hv)), ?_⟩
    rw [if_pos ho]
    exact (h.afterSample rest).takeEvent hv
  · refine ⟨_, Machine.step_of_quiet (edge_of_held hinputs hr (hvalid.trans hv)), ?_⟩
    rw [if_neg (ho ▸ Bool.false_ne_true)]
    exact h.afterSample rest
  · exact ⟨_, Machine.step_of_quiet (edge_of_idle hinputs hr (hvalid.trans hv) hn), h.afterSample rest⟩

/-- An accepted transfer that has a class under one value is accepted, and has a class, under the other. -/
theorem step_of_transfer {s t u : State} {e : InEvent} {i : Instr} (h : s.Mark141Twins t)
    (he : s.edge = .transfer e u) (hd : decode u.mark141 u.sync u.cnt e = some i) :
    ∃ t', step t = .next t' ∧ (effectOf i u).Mark141Twins t' := by
  obtain ⟨-, -, hblock, hvalid, hinputs, -⟩ := id h
  obtain ⟨p, rest, hi, hr, hv, hn, rfl, rfl⟩ := edge_eq_transfer he
  have hedge := edge_of_offer (hinputs.trans hi) hr (hvalid.trans hv) hn
  obtain ⟨j, hj⟩ := decode_total_of_decode hd t.mark141
  have hj' : decode t.mark141 t.block.sync t.block.cnt p.transfer = some j := by rw [hblock]; exact hj
  rw [effectOf_eq_commit hd]
  exact ⟨_, step_eq_commit hedge hj', (h.afterSample rest).commit p.transfer⟩

theorem step {s t s' : State} (h : s.Mark141Twins t) (hs : Machine.step s = .next s') :
    ∃ t', Machine.step t = .next t' ∧ s'.Mark141Twins t' := by
  rcases step_cases hs with hq | ⟨e, u, i, he, hd, -, -, rfl⟩
  · exact h.step_of_quiet hq
  · exact h.step_of_transfer he hd

end State.Mark141Twins

/-- Settles O56: every edge keeps twins twins, and so does a run. -/
theorem parameterChangesOnlyTheReportOfByte141 : Obligations.ParameterChangesOnlyTheReportOfByte141 := by
  unfold Obligations.ParameterChangesOnlyTheReportOfByte141
  refine ⟨rfl, by decide, by decide, fun n s t s' h hrun => ?_⟩
  exact core_run_simulates (fun _ _ _ hr hs => hr.step hs) h hrun

end Sys2Proof.Machine
end

section
/-! SUPPORT. Progress (00_scope.md R9): a payload count of at most 16 is kept by every step (10_state.md R21, R27), and with
it every step answers a next state. -/

namespace Sys2Proof.Machine

/-- A predicate that every step keeps, and under which a step answers a next state, gives runs of any length. -/
theorem core_run_total {P : State → Prop} (keep : ∀ s s', P s → step s = .next s' → P s')
    (progress : ∀ s, P s → ∃ s', step s = .next s') (n : Nat) {s : State} (hp : P s) :
    ∃ s', Sys2Proof.core.run n s = .next s' := by
  induction n generalizing s with
  | zero => exact ⟨s, rfl⟩
  | succ n ih =>
    obtain ⟨t, ht⟩ := progress s hp
    rw [core_run_succ_of_next ht]
    exact ih (keep s t hp ht)

theorem Block.marker_cnt_le {st : Block} (h : st.cnt.toNat ≤ 16) (r : SyncResult) :
    (st.marker r).1.cnt.toNat ≤ 16 := by
  cases r with
  | frame kind rc => exact Nat.zero_le 16
  | needMore | endMarker | endMarkerUnconfirmed | unknownMarker c => exact h

theorem Block.step_cnt_le {st : Block} (h : st.cnt.toNat ≤ 16) (m : Mark141) (e : InEvent) :
    (st.step m e).1.cnt.toNat ≤ 16 := by
  cases e with
  | abort => exact Nat.zero_le 16
  | byte b =>
    cases hs : st.sync with
    | awaitingSync => rw [Block.step_marker hs]; exact Block.marker_cnt_le h _
    | payloadExpected =>
      by_cases hc : st.cnt.toNat < 16
      · rw [Block.step_payloadByte hs hc]; simp only; bv_omega
      · rw [Block.step_payloadLast hs hc]; exact Nat.zero_le 16

theorem step_cnt_le {s s' : State} (hc : s.cnt.toNat ≤ 16) (h : step s = .next s') : s'.cnt.toNat ≤ 16 := by
  rcases step_tokens_cases h with ⟨_, hb, _⟩ | ⟨_, rest, rfl⟩ | ⟨e, rest, i, _, _, hd, _, rfl⟩
  · rw [← State.block_cnt, hb]; exact hc
  · exact Nat.zero_le 16
  · rw [effectOf_afterSample rest hd, State.commit_cnt]
    exact Block.step_cnt_le hc _ _

/-- With a payload count of at most 16 every transfer has a class, whose row applies, so no step stops. -/
theorem step_next_of_cnt_le {s : State} (hc : s.cnt.toNat ≤ 16) : ∃ s', step s = .next s' := by
  cases he : s.edge with
  | quiet t => exact ⟨t, step_of_quiet he⟩
  | transfer e t =>
    obtain ⟨p, rest, _, _, _, _, _, rfl⟩ := edge_eq_transfer he
    obtain ⟨i, hi⟩ := decode_total s.mark141 s.sync e hc
    exact ⟨_, step_eq_commit he hi⟩

/-- Settles O45: the invariant bounds the payload count, which is all that progress needs. -/
theorem stepNeverFaultsOrStops : Obligations.StepNeverFaultsOrStops := by
  unfold Obligations.StepNeverFaultsOrStops
  refine ⟨fun s ⟨_, _, hc, _⟩ => step_next_of_cnt_le hc, fun m inputs n => ?_⟩
  exact core_run_total (P := fun s => s.cnt.toNat ≤ 16) (fun _ _ => step_cnt_le) (fun _ => step_next_of_cnt_le) n
    (Nat.zero_le 16)

end Sys2Proof.Machine
end

section
/-! SUPPORT. What the decode of a payload can report (41_payload_decoder.md R136, R137, R141, R150, R151; 42_timestamp.md
R170 to R176): a record with every field in its range, or an error that is not InvalidRange where the range code is one of
the table. -/

namespace Sys2Proof.Machine

/-- The digit check bounds bytes 1 to 16 and says nothing of byte 0 (41_payload_decoder.md R136). -/
theorem digitsOk_iff (p : Payload) : digitsOk p = true ↔ ∀ i : Fin 17, 1 ≤ i.val → p[i].toNat ≤ 9 := by
  simp only [digitsOk, List.all_eq_true, decide_eq_true_eq, List.mem_drop_iff_getElem, BitVec.le_def]
  constructor
  · intro h i hi
    exact h _ ⟨i.val - 1, by simp; omega, by simp; congr 1; omega⟩
  · rintro h b ⟨k, hk, rfl⟩
    have hk' : 1 + k < 17 := by simpa [Nat.add_comm] using hk
    simpa using h ⟨1 + k, hk'⟩ (Nat.le_add_right 1 k)

theorem digit_le {p : Payload} (h : digitsOk p = true) {i : Nat} (hi : i < 17) (h1 : 1 ≤ i) : p[i].toNat ≤ 9 :=
  (digitsOk_iff p).1 h ⟨i, hi⟩ h1

theorem bcd2_le {hi lo : Byte} (hhi : hi.toNat ≤ 9) (hlo : lo.toNat ≤ 9) : bcd2 hi lo ≤ 99 := by
  unfold bcd2
  omega

theorem rawYear_le {p : Payload} (h : digitsOk p = true) : rawYear p ≤ 99 :=
  bcd2_le (digit_le h _ (by decide)) (digit_le h _ (by decide))

theorem decibel_le {p : Payload} (h : digitsOk p = true) : decibel p ≤ 9999 := by
  have h1 := digit_le h (i := 1) (by decide) (by decide)
  have h2 := digit_le h (i := 2) (by decide) (by decide)
  have h3 := digit_le h (i := 3) (by decide) (by decide)
  have h4 := digit_le h (i := 4) (by decide) (by decide)
  unfold decibel
  omega

theorem daysInMonth_le (y m : Nat) : daysInMonth y m ≤ 31 := by
  unfold daysInMonth
  split_ifs <;> decide

/-- The conditions of 42_timestamp.md R175. -/
theorem validDateTime_iff (y month : Nat) (day : Int) (hour minute second : Nat) :
    validDateTime y month day hour minute second = true ↔
      (1 ≤ month ∧ month ≤ 12) ∧ (1 ≤ day ∧ day ≤ daysInMonth y month) ∧ hour ≤ 23 ∧ minute ≤ 59 ∧ second ≤ 59 := by
  simp only [validDateTime]
  split_ifs with hm
  · simp [hm, and_assoc]
  · simp [hm]

/-- Validation comes before narrowing, so no field of a timestamp loses a bit (42_timestamp.md R175, R176). -/
theorem timestamp_fields {p : Payload} {t : Timestamp} (hd : digitsOk p = true) (h : timestamp p = some t) :
    validDateTime (Config.yearBase + rawYear p) (rawMonth p) (correctedDay p) (rawHour p) (rawMinute p) (rawSecond p)
        = true ∧
      t.yy.toNat = rawYear p ∧ t.month.toNat = rawMonth p ∧ (t.day.toNat : Int) = correctedDay p ∧
      t.hour.toNat = rawHour p ∧ t.minute.toNat = rawMinute p ∧ t.second.toNat = rawSecond p := by
  unfold timestamp at h
  split_ifs at h with hv
  cases h
  have hyear := rawYear_le hd
  obtain ⟨hmonth, hday, hhour, hminute, hsecond⟩ := (validDateTime_iff _ _ _ _ _ _).1 hv
  have hlast := daysInMonth_le (Config.yearBase + rawYear p) (rawMonth p)
  refine ⟨hv, ?_, ?_, ?_, ?_, ?_, ?_⟩ <;> simp only [BitVec.toNat_ofNat, BitVec.toNat_ofInt] <;> omega

/-- A successful decode passed the three checks, and holds what they computed (41_payload_decoder.md R150). -/
theorem decodePayload_eq_ok {p : Payload} {src : Source} {rc : BitVec 3} {r : MeasurementRecord}
    (h : decodePayload p src rc = .ok r) :
    ∃ t lo hi, digitsOk p = true ∧ timestamp p = some t ∧ rangeLut rc = some (lo, hi) ∧
      r = { source := src, yy := t.yy, month := t.month, day := t.day, hour := t.hour, minute := t.minute,
            second := t.second, dbTenths := BitVec.ofNat 14 (decibel p), flags := flags p[0] src,
            unknownBits := unknownBits p[0], rangeLow := lo, rangeHigh := hi } := by
  unfold decodePayload at h
  split_ifs at h with hd
  split at h
  · cases h
  · rename_i t ht
    split at h
    · cases h
    · rename_i lo hi hlut
      cases h
      exact ⟨t, lo, hi, hd, ht, hlut, rfl⟩

theorem rangeLut_eq_none_iff (rc : BitVec 3) : rangeLut rc = none ↔ 6 < rc.toNat :=
  List.getElem?_eq_none_iff

/-- A range code of the table is never rejected (41_payload_decoder.md R141). -/
theorem decodePayload_ne_invalidRange {rc : BitVec 3} (hrc : rc.toNat ≤ 6) (p : Payload) (src : Source) :
    decodePayload p src rc ≠ .err .invalidRange := by
  intro h
  unfold decodePayload at h
  split at h
  · split at h
    · cases h
    · split at h
      · rename_i hlut
        exact absurd ((rangeLut_eq_none_iff rc).1 hlut) (Nat.not_lt.2 hrc)
      · cases h
  · cases h

theorem unknownBits_eq (b : Byte) : unknownBits b = 0x00#8 ∨ unknownBits b = 0x80#8 := by
  have bytes : ∀ c : Byte, unknownBits c = 0x00#8 ∨ unknownBits c = 0x80#8 := by decide
  exact bytes b

/-- Every record is in range (41_payload_decoder.md R151). -/
theorem decodePayload_recordInRange {p : Payload} {src : Source} {rc : BitVec 3} {r : MeasurementRecord}
    (h : decodePayload p src rc = .ok r) : recordInRange r = true := by
  obtain ⟨t, lo, hi, hd, ht, hlut, rfl⟩ := decodePayload_eq_ok h
  obtain ⟨hvalid, hyy, hmonth, hday, hhour, hminute, hsecond⟩ := timestamp_fields hd ht
  obtain ⟨hm, hd', hh, hmin, hs⟩ := (validDateTime_iff _ _ _ _ _ _).1 hvalid
  have hyear := rawYear_le hd
  have hlast := daysInMonth_le (Config.yearBase + rawYear p) (rawMonth p)
  have hdb := decibel_le hd
  have hrange : (lo, hi) ∈ rangeTable := List.mem_of_getElem? hlut
  have hdb' : decibel p % 2 ^ 14 ≤ 9999 := by omega
  simp only [recordInRange, Bool.and_eq_true, Bool.or_eq_true, decide_eq_true_eq, beq_iff_eq, List.contains_iff_mem,
    BitVec.toNat_ofNat]
  refine ⟨⟨⟨⟨⟨⟨⟨⟨⟨⟨?_, ?_⟩, ?_⟩, ?_⟩, ?_⟩, ?_⟩, ?_⟩, ?_⟩, hdb'⟩, unknownBits_eq _⟩, hrange⟩ <;> omega

/-- The 17th byte reports an allowed event, given a range code of the table (41_payload_decoder.md R131, R141). -/
theorem decodeEvent_allowed {rc : BitVec 3} (hrc : rc.toNat ≤ 6) (m : Mark141) (p : Payload) (src : Source) :
    eventAllowed m (decodeEvent p src rc) = true := by
  unfold decodeEvent
  split
  · rename_i r hok
    exact decodePayload_recordInRange hok
  · rename_i code herr
    simp only [eventAllowed, bne_iff_ne]
    rintro rfl
    exact decodePayload_ne_invalidRange hrc p src herr

end Sys2Proof.Machine
end

section
/-! SUPPORT. The transaction-level part of a step, by the token of its edge (00_scope.md R8; 10_state.md R21, R23, R24), and the
two statements it gives about what moves the sequencer and what writes `src` and `rc`. -/

namespace Sys2Proof.Machine

/-- At transaction level a step holds the block, resets it, or is `Block.step` of the transfer it accepts. -/
theorem step_block_cases {s s' : State} (h : step s = .next s') :
    (s.tokens = [] ∧ s'.block = s.block) ∨ (s.tokens = [.reset] ∧ s'.block = Block.afterReset s'.buf) ∨
      ∃ e, s.tokens = [.transfer e] ∧ s'.block = (s.block.step s.mark141 e).1 := by
  rcases step_tokens_cases h with ⟨ht, hb, _⟩ | ⟨ht, rest, rfl⟩ | ⟨e, rest, i, ht, _, hd, _, rfl⟩
  · exact .inl ⟨ht, hb⟩
  · exact .inr (.inl ⟨ht, rfl⟩)
  · exact .inr (.inr ⟨e, ht, by rw [effectOf_afterSample rest hd, State.commit_block]⟩)

theorem step_block_of_no_token {s s' : State} (h : step s = .next s') (ht : s.tokens = []) : s'.block = s.block := by
  rcases step_block_cases h with ⟨_, hb⟩ | ⟨ht', _⟩ | ⟨e, ht', _⟩
  · exact hb
  all_goals simp [ht] at ht'

theorem step_block_of_reset {s s' : State} (h : step s = .next s') (ht : s.tokens = [.reset]) :
    s'.block = Block.afterReset s'.buf := by
  rcases step_block_cases h with ⟨ht', _⟩ | ⟨_, hb⟩ | ⟨e, ht', _⟩
  · simp [ht] at ht'
  · exact hb
  · simp [ht] at ht'

theorem step_block_of_transfer {s s' : State} {e : InEvent} (h : step s = .next s') (ht : s.tokens = [.transfer e]) :
    s'.block = (s.block.step s.mark141 e).1 := by
  rcases step_block_cases h with ⟨ht', _⟩ | ⟨ht', _⟩ | ⟨e', ht', hb⟩
  · simp [ht] at ht'
  · simp [ht] at ht'
  · rw [ht] at ht'; cases ht'; exact hb

/-- While sync is awaited a byte that is no Frame marker leaves the block as it is (40_synchronizer.md R114). -/
theorem Block.marker_eq_self {st : Block} {r : SyncResult} (h : ∀ kind rc, r ≠ .frame kind rc) :
    (st.marker r).1 = st := by
  cases r with
  | frame kind rc => exact absurd rfl (h kind rc)
  | needMore | endMarker | endMarkerUnconfirmed | unknownMarker c => rfl

/-- Settles O46: each token's equation of `Block.step`. -/
theorem sequencerMovesOnlyAsListed : Obligations.SequencerMovesOnlyAsListed := by
  unfold Obligations.SequencerMovesOnlyAsListed
  intro s s' h
  simp only [← State.block_sync, ← State.block_cnt]
  refine ⟨fun ht => ?none, fun ht => ?reset, fun ht => ?abort, fun b ht => ⟨?byte, ?last, ?frame, ?other⟩⟩
  case none => rw [step_block_of_no_token h ht]; exact ⟨rfl, rfl⟩
  case reset => rw [step_block_of_reset h ht]; exact ⟨rfl, rfl⟩
  case abort => rw [step_block_of_transfer h ht]; exact ⟨rfl, rfl⟩
  all_goals rw [step_block_of_transfer h ht]
  case byte =>
    rintro ⟨hs, hc⟩
    rw [Block.step_payloadByte hs hc]
    exact ⟨hs, by simp only; bv_omega⟩
  case last =>
    rintro ⟨hs, hc⟩
    rw [Block.step_payloadLast hs hc.not_lt]
    exact ⟨rfl, rfl⟩
  case frame =>
    intro hs kind rc hf
    rw [Block.step_marker hs, hf]
    exact ⟨rfl, rfl⟩
  case other =>
    intro hs hf
    rw [Block.step_marker hs, Block.marker_eq_self hf]
    exact ⟨rfl, rfl⟩

/-- A transfer that does not keep `src` and `rc` is a Frame marker, while sync is awaited (10_state.md R23, R24). -/
theorem Block.step_src_rc (st : Block) (m : Mark141) (e : InEvent) :
    ((st.step m e).1.src = st.src ∧ (st.step m e).1.rc = st.rc) ∨
      ∃ b kind rc, e = .byte b ∧ st.sync = .awaitingSync ∧ classify m b = .frame kind rc ∧
        (st.step m e).1.src = kind ∧ (st.step m e).1.rc = rc := by
  cases e with
  | abort => exact .inl ⟨rfl, rfl⟩
  | byte b =>
    cases hs : st.sync with
    | payloadExpected =>
      left
      by_cases hc : st.cnt.toNat < 16
      · rw [Block.step_payloadByte hs hc]; exact ⟨rfl, rfl⟩
      · rw [Block.step_payloadLast hs hc]; exact ⟨rfl, rfl⟩
    | awaitingSync =>
      rw [Block.step_marker hs]
      cases hf : classify m b with
      | frame kind rc => exact .inr ⟨b, kind, rc, rfl, rfl, hf, rfl, rfl⟩
      | needMore | endMarker | endMarkerUnconfirmed | unknownMarker c => exact .inl ⟨rfl, rfl⟩

/-- Settles O47, by the token of the step. -/
theorem sourceAndRangeWrittenOnlyByFrameMarkers : Obligations.SourceAndRangeWrittenOnlyByFrameMarkers := by
  unfold Obligations.SourceAndRangeWrittenOnlyByFrameMarkers
  intro s s' h
  rcases step_block_cases h with ⟨_, hb⟩ | ⟨ht, _⟩ | ⟨e, ht, hb⟩
  · exact .inl ⟨congrArg Block.src hb, congrArg Block.rc hb⟩
  · exact .inr (.inl ht)
  · rw [← State.block_src, ← State.block_rc, hb]
    rcases s.block.step_src_rc s.mark141 e with hkeep | ⟨b, kind, rc, rfl, hs, hf, hsrc, hrc⟩
    · exact .inl hkeep
    · exact .inr (.inr ⟨b, kind, rc, ht, hs, hf, hsrc, hrc, classify_frame_range hf⟩)

end Sys2Proof.Machine
end

section
/-! SUPPORT. The invariant of 10_state.md R27 (I-a), (I-b) with the bound of R21: its transaction-level part, which `Block.step`
keeps, and its part about events, which a block of the first part can only extend with allowed ones. -/

namespace Sys2Proof.Machine

/-- The part of the invariant that speaks of the transaction-level state. -/
def Block.Inv (st : Block) : Prop :=
  (st.sync = .awaitingSync → st.cnt = 0) ∧ (st.sync = .payloadExpected → st.rc.toNat ≤ 6) ∧ st.cnt.toNat ≤ 16

/-- The part of the invariant that speaks of events: those held and those emitted are allowed. -/
def State.EventsAllowed (s : State) : Prop :=
  (s.outValid = true → eventAllowed s.mark141 s.outReg = true) ∧ ∀ ev ∈ s.emitted, eventAllowed s.mark141 ev = true

theorem State.inv_iff (s : State) : s.Inv ↔ s.block.Inv ∧ s.EventsAllowed :=
  ⟨fun ⟨ha, hb, hc, hreg, hem⟩ => ⟨⟨ha, hb, hc⟩, hreg, hem⟩, fun ⟨⟨ha, hb, hc⟩, hreg, hem⟩ => ⟨ha, hb, hc, hreg, hem⟩⟩

/-- Awaiting sync with count 0 is enough: the range code is then free (10_state.md R27). -/
theorem Block.inv_of_awaitingSync {st : Block} (hs : st.sync = .awaitingSync) (hc : st.cnt = 0) : st.Inv :=
  ⟨fun _ => hc, fun hp => by simp [hs] at hp, by simp [hc]⟩

theorem Block.marker_inv {st : Block} (h : st.Inv) (m : Mark141) (b : Byte) : (st.marker (classify m b)).1.Inv := by
  cases hf : classify m b with
  | frame kind rc => exact ⟨fun _ => rfl, fun _ => classify_frame_range hf, Nat.zero_le 16⟩
  | needMore | endMarker | endMarkerUnconfirmed | unknownMarker c => exact h

theorem Block.step_inv {st : Block} (h : st.Inv) (m : Mark141) (e : InEvent) : (st.step m e).1.Inv := by
  cases e with
  | abort => exact Block.inv_of_awaitingSync rfl rfl
  | byte b =>
    cases hs : st.sync with
    | awaitingSync => rw [Block.step_marker hs]; exact Block.marker_inv h m b
    | payloadExpected =>
      by_cases hc : st.cnt.toNat < 16
      · obtain ⟨_, hrc, _⟩ := h
        have hcnt : (st.step m (.byte b)).1.cnt.toNat ≤ 16 := Block.step_cnt_le hc.le m (.byte b)
        rw [Block.step_payloadByte hs hc] at hcnt ⊢
        exact ⟨fun ha => by simp [hs] at ha, hrc, hcnt⟩
      · rw [Block.step_payloadLast hs hc]; exact Block.inv_of_awaitingSync rfl rfl

theorem classify_unknownMarker {m : Mark141} {b c : Byte} (h : classify m b = .unknownMarker c) : c = b := by
  unfold classify at h
  split_ifs at h
  cases h
  rfl

/-- A marker's report is one of its class (30_encoding.md R80). -/
theorem Block.marker_event_allowed {st : Block} {m : Mark141} {b : Byte} {ev : OutEvent}
    (h : (st.marker (classify m b)).2 = some ev) : eventAllowed m ev = true := by
  cases hf : classify m b with
  | needMore | frame kind rc => rw [hf] at h; cases h
  | endMarker => rw [hf] at h; cases h; rfl
  | endMarkerUnconfirmed =>
    rw [hf] at h; cases h
    rw [(classify_endUnconfirmed hf).2]; rfl
  | unknownMarker c =>
    rw [hf] at h; cases h
    obtain rfl := classify_unknownMarker hf
    simp [eventAllowed, hf]

/-- What a transfer reports in a block of the invariant is an allowed event (41_payload_decoder.md R141, R151). -/
theorem Block.step_event_allowed {st : Block} (h : st.Inv) {m : Mark141} {e : InEvent} {ev : OutEvent}
    (hev : (st.step m e).2 = some ev) : eventAllowed m ev = true := by
  obtain ⟨_, hrc, hcnt⟩ := h
  cases e with
  | abort =>
    cases hs : st.sync <;> rw [Block.step_abort, hs] at hev <;> cases hev
    · rfl
    · simpa [eventAllowed] using hcnt
  | byte b =>
    cases hs : st.sync with
    | awaitingSync => rw [Block.step_marker hs] at hev; exact Block.marker_event_allowed hev
    | payloadExpected =>
      by_cases hc : st.cnt.toNat < 16
      · rw [Block.step_payloadByte hs hc] at hev; cases hev
      · rw [Block.step_payloadLast hs hc] at hev
        cases hev
        exact decodeEvent_allowed (hrc hs) m _ _

/-- Committing a step whose event, if there is one, is allowed. -/
theorem State.commit_eventsAllowed {s : State} {r : Block × Option OutEvent} (h : s.EventsAllowed)
    (hev : ∀ ev, r.2 = some ev → eventAllowed s.mark141 ev = true) : (s.commit r).EventsAllowed := by
  obtain ⟨hreg, hem⟩ := h
  obtain ⟨st, _ | ev⟩ := r
  · exact ⟨hreg, hem⟩
  · refine ⟨fun _ => hev ev rfl, fun x hx => ?_⟩
    rcases List.mem_append.1 hx with hold | hnew
    · exact hem x hold
    · exact hev x (congrArg some (List.mem_singleton.1 hnew).symm)

theorem step_block_inv {s s' : State} (hi : s.block.Inv) (h : step s = .next s') : s'.block.Inv := by
  rcases step_block_cases h with ⟨_, hb⟩ | ⟨_, hb⟩ | ⟨e, _, hb⟩ <;> rw [hb]
  · exact hi
  · exact Block.inv_of_awaitingSync rfl rfl
  · exact Block.step_inv hi _ _

theorem step_eventsAllowed {s s' : State} (hi : s.block.Inv) (ha : s.EventsAllowed) (h : step s = .next s') :
    s'.EventsAllowed := by
  obtain ⟨hreg, hem⟩ := id ha
  rcases step_tokens_cases h with ⟨_, _, hm, he, hout⟩ | ⟨_, rest, rfl⟩ | ⟨e, rest, i, _, _, hd, _, rfl⟩
  · rw [State.EventsAllowed, hm, he]
    refine ⟨fun hv => ?_, hem⟩
    rcases hout with ⟨hv', hr, _⟩ | ⟨_, hv', _⟩
    · rw [hr]; exact hreg (hv'.symm.trans hv)
    · rw [hv'] at hv; cases hv
  · exact ⟨(nomatch ·), hem⟩
  · rw [effectOf_afterSample rest hd]
    exact State.commit_eventsAllowed (s := s.afterSample rest) ha fun ev hev => Block.step_event_allowed hi hev

/-- Settles O44: `Block.step` keeps the transaction-level part, and reports allowed events only. -/
theorem everyStepKeepsTheInvariant : Obligations.EveryStepKeepsTheInvariant := by
  unfold Obligations.EveryStepKeepsTheInvariant
  intro s s' hinv h
  obtain ⟨hi, ha⟩ := s.inv_iff.1 hinv
  exact s'.inv_iff.2 ⟨step_block_inv hi h, step_eventsAllowed hi ha h⟩

/-- Settles O43: the reset state awaits sync with count 0, and has neither emitted an event nor holds one. -/
theorem invariantHoldsAtReset : Obligations.InvariantHoldsAtReset := by
  unfold Obligations.InvariantHoldsAtReset
  have hinv (m : Mark141) (inputs : List Pins) : ({ State.reset with mark141 := m, inputs := inputs } : State).Inv :=
    (State.inv_iff _).2 ⟨Block.inv_of_awaitingSync rfl rfl, ⟨(nomatch ·), fun _ => (nomatch ·)⟩⟩
  exact ⟨hinv .distinctEnd [], hinv⟩

/-- Settles O11: the values of 10_state.md R34 and 00_scope.md R11, as the model's reset state writes them. -/
theorem resetStateValues : Obligations.ResetStateValues := by
  unfold Obligations.ResetStateValues
  exact ⟨rfl, rfl, rfl, rfl, rfl, rfl, rfl, rfl⟩

/-- Settles O55: `step_mark141`, which goes by the token of the step. -/
theorem parameterNeverChanges : Obligations.ParameterNeverChanges := by
  unfold Obligations.ParameterNeverChanges
  exact fun _ _ h => step_mark141 h

end Sys2Proof.Machine
end

section
/-! SUPPORT. Two runs that differ in stale or unspecified state only (10_state.md R28, R34): `State.Alike` is carried along by
every edge. At transaction level it is `Block.Agrees` inside a payload, and no more than the sequencer outside one. -/

namespace Sys2Proof.Machine

/-- The transaction-level part of `State.Alike`. -/
def Block.Alike (a b : Block) : Prop :=
  a.sync = b.sync ∧ a.cnt = b.cnt ∧ (a.sync = .payloadExpected → a.Agrees b)

theorem Block.Agrees.alike {a b : Block} (h : a.Agrees b) : a.Alike b := by
  obtain ⟨hsync, _, _, hcnt, _⟩ := id h
  exact ⟨hsync, hcnt, fun _ => h⟩

/-- While sync is awaited `src`, `rc` and `buf` do not matter: a Frame marker writes the first two and delivers no byte. -/
theorem Block.Alike.marker {a b : Block} (h : a.Alike b) (r : SyncResult) :
    (a.marker r).1.Alike (b.marker r).1 ∧ (a.marker r).2 = (b.marker r).2 := by
  cases r with
  | frame kind rc =>
    exact ⟨Block.Agrees.alike ⟨rfl, rfl, rfl, rfl, fun _ hi => absurd hi (Nat.not_lt_zero _)⟩, rfl⟩
  | needMore | endMarker | endMarkerUnconfirmed | unknownMarker c => exact ⟨h, rfl⟩

/-- Alike blocks stay alike over any transfer, and report the same event. -/
theorem Block.Alike.step {a b : Block} (h : a.Alike b) (m : Mark141) (e : InEvent) :
    (a.step m e).1.Alike (b.step m e).1 ∧ (a.step m e).2 = (b.step m e).2 := by
  obtain ⟨hsync, hcnt, hpayload⟩ := id h
  cases hs : a.sync with
  | payloadExpected =>
    obtain ⟨hblock, hevent⟩ := (hpayload hs).step m e
    exact ⟨hblock.alike, hevent⟩
  | awaitingSync =>
    cases e with
    | abort =>
      rw [Block.step_abort, Block.step_abort, ← hsync, hcnt]
      exact ⟨⟨rfl, rfl, (nomatch ·)⟩, rfl⟩
    | byte x =>
      rw [Block.step_marker hs, Block.step_marker (hsync ▸ hs)]
      exact h.marker _

namespace State.Alike

theorem block {s t : State} (h : s.Alike t) : s.block.Alike t.block := by
  obtain ⟨-, hsync, hcnt, -, -, -, -, -, hpayload⟩ := h
  refine ⟨hsync, hcnt, fun hp => ?_⟩
  obtain ⟨hsrc, hrc, hbuf⟩ := hpayload hp
  exact ⟨hsync, hsrc, hrc, hcnt, hbuf⟩

theorem afterSample {s t : State} (h : s.Alike t) (rest : List Pins) : (s.afterSample rest).Alike (t.afterSample rest) := by
  obtain ⟨hm, hsync, hcnt, hvalid, -, hemitted, htaken, hreg, hpayload⟩ := h
  exact ⟨hm, hsync, hcnt, hvalid, rfl, hemitted, htaken, hreg, hpayload⟩

/-- A reset draws free values for the buffer and the output register, and leaves nothing that shows them. -/
theorem resetEdge {s t : State} (h : s.Alike t) (rest : List Pins) :
    ({ s.resetEdge with inputs := rest } : State).Alike { t.resetEdge with inputs := rest } := by
  obtain ⟨hm, -, -, -, -, hemitted, htaken, -, -⟩ := h
  exact ⟨hm, rfl, rfl, rfl, rfl, hemitted, htaken, (nomatch ·), (nomatch ·)⟩

theorem takeEvent {s t : State} (h : s.Alike t) (hv : s.outValid = true) : s.takeEvent.Alike t.takeEvent := by
  obtain ⟨hm, hsync, hcnt, -, hinputs, hemitted, htaken, hreg, hpayload⟩ := h
  refine ⟨hm, hsync, hcnt, rfl, hinputs, hemitted, ?_, (nomatch ·), hpayload⟩
  rw [State.takeEvent_taken, State.takeEvent_taken, htaken, hreg hv]

/-- Alike states that commit alike blocks and the same event are alike after it. -/
theorem commit {s t : State} (h : s.Alike t) {a b : Block} (hab : a.Alike b) (out : Option OutEvent) :
    (s.commit (a, out)).Alike (t.commit (b, out)) := by
  obtain ⟨hm, -, -, hvalid, hinputs, hemitted, htaken, hreg, -⟩ := h
  obtain ⟨hsync, hcnt, hagree⟩ := hab
  have hpayload (hp : a.sync = .payloadExpected) :
      a.src = b.src ∧ a.rc = b.rc ∧ ∀ i : Fin 17, i.val < a.cnt.toNat → a.buf[i] = b.buf[i] := by
    obtain ⟨-, hsrc, hrc, -, hbuf⟩ := hagree hp
    exact ⟨hsrc, hrc, hbuf⟩
  cases out with
  | none => exact ⟨hm, hsync, hcnt, hvalid, hinputs, hemitted, htaken, hreg, hpayload⟩
  | some ev =>
    exact ⟨hm, hsync, hcnt, rfl, hinputs, congrArg (· ++ [ev]) hemitted, htaken, fun _ => rfl, hpayload⟩

/-- The next edges of alike states are of one kind, with the same transfer if they accept one. -/
theorem edge {s t : State} (h : s.Alike t) :
    (∃ s' t', s.edge = .quiet s' ∧ t.edge = .quiet t' ∧ s'.Alike t') ∨
      ∃ e s' t', s.edge = .transfer e s' ∧ t.edge = .transfer e t' ∧ s'.Alike t' := by
  obtain ⟨-, -, -, hvalid, hinputs, -⟩ := id h
  rw [State.edge, State.edge, ← hinputs, ← hvalid]
  cases s.inputs with
  | nil => exact .inl ⟨s, t, rfl, rfl, h⟩
  | cons p rest =>
    dsimp only
    split_ifs with hr hv ho hi
    · exact .inl ⟨_, _, rfl, rfl, h.resetEdge rest⟩
    · exact .inl ⟨_, _, rfl, rfl, (h.afterSample rest).takeEvent hv⟩
    · exact .inl ⟨_, _, rfl, rfl, h.afterSample rest⟩
    · exact .inr ⟨_, _, _, rfl, rfl, h.afterSample rest⟩
    · exact .inl ⟨_, _, rfl, rfl, h.afterSample rest⟩

theorem step {s t s' : State} (h : s.Alike t) (hs : Machine.step s = .next s') :
    ∃ t', Machine.step t = .next t' ∧ s'.Alike t' := by
  rcases h.edge with ⟨u, v, hu, hv, huv⟩ | ⟨e, u, v, hu, hv, huv⟩
  · rw [step_of_quiet hu] at hs
    cases hs
    exact ⟨v, step_of_quiet hv, huv⟩
  · rcases step_cases hs with hq | ⟨e', u', i, he, hd, -, -, rfl⟩
    · rw [hu] at hq; cases hq
    · rw [hu] at he
      cases he
      obtain ⟨hm, hsync, hcnt, -⟩ := id huv
      have hd' : decode v.mark141 v.sync v.cnt e = some i := by rw [← hm, ← hsync, ← hcnt, hd]
      obtain ⟨hblock, hevent⟩ := huv.block.step v.mark141 e
      refine ⟨_, step_eq_commit hv hd', ?_⟩
      rw [effectOf_eq_commit hd, hm, ← Prod.mk.eta (p := v.block.step v.mark141 e), ← hevent]
      exact huv.commit hblock _

/-- The ports show a held event only, and alike states hold the same one (30_encoding.md R90, R91). -/
theorem ports {s t : State} (h : s.Alike t) (rst : Bool) :
    (s.ports rst).event = (t.ports rst).event ∧ (s.ports rst).inReady = (t.ports rst).inReady := by
  obtain ⟨-, -, -, hvalid, -, -, -, hreg, -⟩ := h
  simp only [State.ports, State.inReady, ← hvalid, and_true]
  split_ifs with hv
  · rw [hreg hv]
  · rfl

end State.Alike

/-- Settles O57: every edge keeps alike states alike, and so does a run. -/
theorem staleStateNeverReachesAnEvent : Obligations.StaleStateNeverReachesAnEvent := by
  unfold Obligations.StaleStateNeverReachesAnEvent
  intro n s t s' h hrun
  obtain ⟨t', ht', halike⟩ := core_run_simulates (fun _ _ _ hr hs => hr.step hs) h hrun
  obtain ⟨-, -, -, -, -, hemitted, htaken, -⟩ := id halike
  exact ⟨t', ht', halike, hemitted, htaken, halike.ports⟩

end Sys2Proof.Machine
end

section
/-! SUPPORT. A payload from its first missing byte on (10_state.md R22, R27; 41_payload_decoder.md R130, R131): what a run of
bytes writes to the buffer, and the run itself, before and at the 17th byte. -/

namespace Sys2Proof.Machine

/-- The buffer after the bytes `bs` have been written from index `k` on (20_memory.md R41). -/
def fillFrom (p : Payload) (k : Nat) : List Byte → Payload
  | [] => p
  | b :: bs => fillFrom (p.setIfInBounds k b) (k + 1) bs

/-- Bytes below the first index written stay. -/
theorem fillFrom_get_of_lt (bs : List Byte) {p : Payload} {k : Nat} (i : Fin 17) (h : i.val < k) :
    (fillFrom p k bs)[i] = p[i] := by
  induction bs generalizing p k with
  | nil => rfl
  | cons b bs ih =>
    rw [fillFrom, ih (h.trans k.lt_succ_self), Fin.getElem_fin, Vector.getElem_setIfInBounds, if_neg h.ne']
    rfl

/-- Bytes from the first index on are those written, in their order. -/
theorem fillFrom_get_of_le {bs : List Byte} {p : Payload} {k : Nat} (i : Fin 17) (hk : k ≤ i.val)
    (hi : i.val < k + bs.length) : bs[i.val - k]? = some (fillFrom p k bs)[i] := by
  induction bs generalizing p k with
  | nil => exact absurd hi hk.not_gt
  | cons b bs ih =>
    rw [fillFrom]
    rcases hk.eq_or_lt with heq | hlt
    · rw [fillFrom_get_of_lt bs i (by omega), Fin.getElem_fin, Vector.getElem_setIfInBounds, if_pos heq, heq,
        Nat.sub_self]
      rfl
    · have hpred : i.val - k = (i.val - (k + 1)) + 1 := by omega
      rw [hpred, List.getElem?_cons_succ, ih hlt (by rw [List.length_cons] at hi; omega)]

/-- A count below 16 counts one byte more without wrapping. -/
theorem cnt_succ_toNat {cnt : BitVec 5} (h : cnt.toNat < 16) : (cnt + 1).toNat = cnt.toNat + 1 := by
  bv_omega

/-- A byte before the 17th, then the rest of the run (41_payload_decoder.md R130). -/
theorem Block.run_payloadByte_cons (m : Mark141) {st : Block} (hs : st.sync = .payloadExpected) (hc : st.cnt.toNat < 16)
    (b : Byte) (bs : List Byte) :
    st.run m ((b :: bs).map Token.byte) =
      ({ st with buf := st.buf.setIfInBounds st.cnt.toNat b, cnt := st.cnt + 1 } : Block).run m (bs.map Token.byte) := by
  simp only [List.map_cons, Block.run, Token.byte, Block.token, Block.step_payloadByte hs hc, Option.toList_none,
    List.nil_append]

/-- Bytes that do not complete the payload are stored and counted, with no event (41_payload_decoder.md R130). -/
theorem Block.run_incomplete_payload (m : Mark141) {bs : List Byte} {st : Block} (hs : st.sync = .payloadExpected)
    (h : bs.length + st.cnt.toNat < 17) :
    st.run m (bs.map Token.byte) =
      ({ st with cnt := st.cnt + BitVec.ofNat 5 bs.length, buf := fillFrom st.buf st.cnt.toNat bs }, []) := by
  induction bs generalizing st with
  | nil => simp [Block.run, fillFrom]
  | cons b bs ih =>
    rw [List.length_cons] at h
    have hc : st.cnt.toNat < 16 := by omega
    have hsucc := cnt_succ_toNat hc
    rw [Block.run_payloadByte_cons m hs hc, ih]
    · simp only [hsucc, fillFrom, List.length_cons, Prod.mk.injEq, Block.mk.injEq, and_true, true_and]
      bv_omega
    · exact hs
    · simp only [hsucc]; omega

/-- The bytes that complete the payload give exactly one event, its decode, and end it (41_payload_decoder.md R131). -/
theorem Block.run_complete_payload (m : Mark141) {bs : List Byte} {st : Block} (hs : st.sync = .payloadExpected)
    (hc : st.cnt.toNat ≤ 16) (h : bs.length + st.cnt.toNat = 17) :
    st.run m (bs.map Token.byte) =
      ({ st with sync := .awaitingSync, cnt := 0, buf := fillFrom st.buf st.cnt.toNat bs },
        [decodeEvent (fillFrom st.buf st.cnt.toNat bs) st.src st.rc]) := by
  induction bs generalizing st with
  | nil => rw [List.length_nil] at h; omega
  | cons b bs ih =>
    rw [List.length_cons] at h
    rcases hc.lt_or_eq with hlt | heq
    · have hsucc := cnt_succ_toNat hlt
      rw [Block.run_payloadByte_cons m hs hlt, ih]
      · simp only [hsucc, fillFrom]
      · exact hs
      · simp only [hsucc]; omega
      · simp only [hsucc]; omega
    · obtain rfl : bs = [] := List.length_eq_zero_iff.1 (by omega)
      rw [List.map_singleton, Block.run_singleton, Token.byte, Block.token, Block.step_payloadLast hs heq.not_lt, heq]
      rfl

/-- Settles O52: the two equations of a run of payload bytes. -/
theorem payloadEndsWithinSeventeenBytes : Obligations.PayloadEndsWithinSeventeenBytes := by
  unfold Obligations.PayloadEndsWithinSeventeenBytes
  intro m st bs hs hc
  constructor
  · intro h
    rw [Block.run_incomplete_payload m hs h]
    refine ⟨hs, ?_, rfl⟩
    simp only [BitVec.toNat_add, BitVec.toNat_ofNat]
    omega
  · intro h
    rw [Block.run_complete_payload m hs hc h]
    refine ⟨rfl, rfl, fillFrom st.buf st.cnt.toNat bs, rfl, fun i hi => fillFrom_get_of_lt bs i hi, fun i hi => ?_⟩
    exact fillFrom_get_of_le i hi (by omega)

end Sys2Proof.Machine
end

section
/-! SUPPORT. What a transfer class keeps and what it may report (20_memory.md R49, R50; 30_encoding.md R80, R91). -/

namespace Sys2Proof.Machine

/-- The parameter and the model's record of the outside are no class's to change (20_memory.md R49, R50). -/
theorem effectOf_keeps_outside (i : Instr) (s : State) :
    (effectOf i s).mark141 = s.mark141 ∧ (effectOf i s).inputs = s.inputs ∧ (effectOf i s).taken = s.taken ∧
      (effectOf i s).epoch = s.epoch := by
  cases i <;> exact ⟨rfl, rfl, rfl, rfl⟩

/-- Five classes emit one event, which the output register then holds; the others leave the output alone. -/
theorem effectOf_emits_at_most_one (i : Instr) (s : State) :
    ((effectOf i s).emitted = s.emitted ∧ (effectOf i s).outValid = s.outValid ∧ (effectOf i s).outReg = s.outReg) ∨
      ∃ ev, (effectOf i s).emitted = s.emitted ++ [ev] ∧ (effectOf i s).outValid = true ∧
        (effectOf i s).outReg = ev := by
  cases i with
  | endMarker | endUnconf | unknown b | payloadLast b | abort => exact .inr ⟨_, rfl, rfl, rfl⟩
  | _ => exact .inl ⟨rfl, rfl, rfl⟩

/-- Settles O13: where `exec` answers, it answers the effect of the class. -/
theorem everyTransferEmitsAtMostOneEvent : Obligations.EveryTransferEmitsAtMostOneEvent := by
  unfold Obligations.EveryTransferEmitsAtMostOneEvent
  intro i s s' h
  rw [exec_eq_transact] at h
  obtain ⟨_, _, rfl⟩ := (transact_eq_next_iff i _ s s').1 h
  obtain ⟨hmark, hinputs, htaken, hepoch⟩ := effectOf_keeps_outside i s
  exact ⟨hmark, hinputs, htaken, hepoch, effectOf_emits_at_most_one i s⟩

end Sys2Proof.Machine
end

section
/-! SUPPORT. What writes the payload buffer and where a decode's event comes from (20_memory.md R41, R48): for one
transaction-level step first, then for a step at the ports, which accepts no payload byte at a count above 16. -/

namespace Sys2Proof

/-- A byte that has a class inside a payload is one of its seventeen (30_encoding.md R75; log entry 9). -/
theorem cnt_le_of_decode {m : Mark141} {sync : Sync} {cnt : BitVec 5} {b : Byte} {i : Instr}
    (h : decode m sync cnt (.byte b) = some i) (hs : sync = .payloadExpected) : cnt.toNat ≤ 16 := by
  simp only [hs, decode, payloadInstr] at h
  split_ifs at h with hlt heq
  · exact hlt.le
  · exact heq.le

/-- An event that reports on a whole frame: a RECORD or a DECODE_ERROR (30_encoding.md R80). -/
def OutEvent.ReportsFrame (ev : OutEvent) : Prop := (∃ r, ev = .record r) ∨ ∃ src code, ev = .decodeError src code

end Sys2Proof

namespace Sys2Proof.Machine

/-- Inside a payload a byte of any value is written at its index (20_memory.md R41; 41_payload_decoder.md R130, R131). -/
theorem Block.step_buf_of_payload {st : Block} (hs : st.sync = .payloadExpected) (m : Mark141) (b : Byte) :
    (st.step m (.byte b)).1.buf = st.buf.setIfInBounds (min st.cnt.toNat 16) b := by
  by_cases hc : st.cnt.toNat < 16
  · rw [Block.step_payloadByte hs hc, min_eq_left hc.le]
  · rw [Block.step_payloadLast hs hc, min_eq_right (not_lt.1 hc)]

theorem Block.marker_buf (st : Block) (r : SyncResult) : (st.marker r).1.buf = st.buf := by
  cases r <;> rfl

/-- A transfer that changes a buffer byte is a payload byte, with that index and value. -/
theorem Block.step_buf_changed {st : Block} {m : Mark141} {e : InEvent} {i : Fin 17}
    (h : (st.step m e).1.buf[i] ≠ st.buf[i]) :
    ∃ b, e = .byte b ∧ st.sync = .payloadExpected ∧ i.val = min st.cnt.toNat 16 ∧ (st.step m e).1.buf[i] = b := by
  cases e with
  | abort => exact absurd rfl h
  | byte b =>
    cases hs : st.sync with
    | awaitingSync =>
      rw [Block.step_marker hs, Block.marker_buf] at h
      exact absurd rfl h
    | payloadExpected =>
      rw [Block.step_buf_of_payload hs, Fin.getElem_fin, Vector.getElem_setIfInBounds] at h ⊢
      split_ifs at h ⊢ with hi
      · exact ⟨b, rfl, rfl, hi.symm, rfl⟩
      · exact absurd rfl h

/-- Settles O48: by the token of the step, and `Block.step_buf_changed` for a transfer. -/
theorem bufferWrittenOnlyByPayloadBytes : Obligations.BufferWrittenOnlyByPayloadBytes := by
  unfold Obligations.BufferWrittenOnlyByPayloadBytes
  intro s s' i h hne
  rcases step_tokens_cases h with ⟨_, hb, _⟩ | ⟨ht, _⟩ | ⟨e, rest, j, ht, _, hd, _, rfl⟩
  · exact absurd (congrArg (fun st => st.buf[i]) hb) hne
  · exact .inl ht
  · rw [effectOf_afterSample rest hd, ← State.block_buf, State.commit_block] at hne ⊢
    obtain ⟨b, rfl, hs, hi, hget⟩ := Block.step_buf_changed hne
    have hc : s.cnt.toNat ≤ 16 := cnt_le_of_decode hd hs
    exact .inr ⟨b, ht, hs, hi.trans (min_eq_left hc), hget⟩

theorem Block.marker_not_reportsFrame {st : Block} {r : SyncResult} {ev : OutEvent} (h : (st.marker r).2 = some ev) :
    ¬ ev.ReportsFrame := by
  cases r <;> cases h <;> simp [OutEvent.ReportsFrame]

/-- A transfer that reports on a frame completes its payload, and reports the decode (41_payload_decoder.md R131). -/
theorem Block.step_reportsFrame {st : Block} {m : Mark141} {e : InEvent} {ev : OutEvent}
    (h : (st.step m e).2 = some ev) (hr : ev.ReportsFrame) :
    ∃ b, e = .byte b ∧ st.sync = .payloadExpected ∧ 16 ≤ st.cnt.toNat ∧
      ev = decodeEvent (st.buf.setIfInBounds 16 b) st.src st.rc := by
  cases e with
  | abort =>
    rw [Block.step_abort] at h
    split_ifs at h <;> cases h <;> simp [OutEvent.ReportsFrame] at hr
  | byte b =>
    cases hs : st.sync with
    | awaitingSync =>
      rw [Block.step_marker hs] at h
      exact absurd hr (Block.marker_not_reportsFrame h)
    | payloadExpected =>
      by_cases hc : st.cnt.toNat < 16
      · rw [Block.step_payloadByte hs hc] at h
        cases h
      · rw [Block.step_payloadLast hs hc] at h
        cases h
        exact ⟨b, rfl, rfl, not_lt.1 hc, rfl⟩

theorem set_sixteen_eq_setIfInBounds (p : Payload) (b : Byte) : p.set 16 b = p.setIfInBounds 16 b := by
  ext i hi
  simp [Vector.getElem_set, Vector.getElem_setIfInBounds]

/-- Settles O50: by the token of the step, and `Block.step_reportsFrame` for a transfer. -/
theorem recordsComeOnlyFromTheSeventeenthByte : Obligations.RecordsComeOnlyFromTheSeventeenthByte := by
  unfold Obligations.RecordsComeOnlyFromTheSeventeenthByte
  intro s s' h
  rcases step_tokens_cases h with ⟨_, _, _, he, _⟩ | ⟨_, rest, rfl⟩ | ⟨e, rest, i, ht, _, hd, _, rfl⟩
  · exact ⟨[], he.trans (List.append_nil _).symm, fun _ hev => nomatch hev⟩
  · exact ⟨[], (List.append_nil _).symm, fun _ hev => nomatch hev⟩
  · rw [effectOf_afterSample rest hd]
    refine ⟨_, State.commit_emitted _ _, fun ev hev hr => ?_⟩
    obtain ⟨b, rfl, hs, hc, rfl⟩ := Block.step_reportsFrame (Option.mem_toList.1 hev) hr
    refine ⟨b, ht, hs, (cnt_le_of_decode hd hs).antisymm hc, ?_⟩
    rw [set_sixteen_eq_setIfInBounds]
    rfl

end Sys2Proof.Machine
end

section
/-! SUPPORT. Transfers played at the ports, each with an edge at which the consumer is ready (30_encoding.md R91, R93; log entry
17): two edges run one transfer and hand its event over, so a list of them is the fold of the transaction-level step. -/

namespace Sys2Proof.Machine

/-- `s'` is `s` once it has played the tokens, with the samples `rest` left: the block and the events are those of the fold, and
the consumer has taken every event. -/
structure State.Played (s : State) (ts : List Token) (rest : List Pins) (s' : State) : Prop where
  block : s'.block = (s.block.run s.mark141 ts).1
  emitted : s'.emitted = s.emitted ++ (s.block.run s.mark141 ts).2
  taken : s'.taken = s.taken ++ (s.block.run s.mark141 ts).2
  outValid : s'.outValid = false
  mark141 : s'.mark141 = s.mark141
  inputs : s'.inputs = rest

theorem State.Played.nil {s : State} (hv : s.outValid = false) : s.Played [] s.inputs s :=
  ⟨rfl, (List.append_nil _).symm, (List.append_nil _).symm, hv, rfl, rfl⟩

theorem State.Played.append {s t u : State} {xs ys : List Token} {mid rest : List Pins} (h : s.Played xs mid t)
    (h' : t.Played ys rest u) : s.Played (xs ++ ys) rest u := by
  obtain ⟨hblock, hemitted, htaken, hvalid, hmark, hinputs⟩ := h'
  rw [h.block, h.mark141] at hblock hemitted htaken
  constructor
  case block => rw [Block.run_append, hblock]
  case emitted => rw [Block.run_append, hemitted, h.emitted, List.append_assoc]
  case taken => rw [Block.run_append, htaken, h.taken, List.append_assoc]
  case outValid => exact hvalid
  case mark141 => exact hmark.trans h.mark141
  case inputs => exact hinputs

/-- Using up a sample touches nothing that playing tokens speaks of. -/
theorem State.Played.of_afterSample {s t : State} {ts : List Token} {mid rest : List Pins}
    (h : (s.afterSample mid).Played ts rest t) : s.Played ts rest t :=
  ⟨h.block, h.emitted, h.taken, h.outValid, h.mark141, h.inputs⟩

/-- The ports of the second edge of a transfer: nothing is offered and the consumer is ready (log entry 17). -/
def Pins.ready : Pins := { rst := false, inValid := false, inAbort := false, inData := 0, outReady := true }

theorem Token.pins_transfer (e : InEvent) : (Token.transfer e).pins = [Pins.offer e, Pins.ready] := rfl

theorem Pins.transfer_offer (e : InEvent) : (Pins.offer e).transfer = e := by
  cases e <;> rfl

theorem step_of_offer {s : State} {e : InEvent} {i : Instr} {rest : List Pins} (hin : s.inputs = Pins.offer e :: rest)
    (hv : s.outValid = false) (hd : decode s.mark141 s.sync s.cnt e = some i) :
    step s = .next ((s.afterSample rest).commit (s.block.step s.mark141 e)) := by
  have hedge : s.edge = .transfer (Pins.offer e).transfer (s.afterSample rest) :=
    edge_of_offer hin (by cases e <;> rfl) hv (by cases e <;> rfl)
  rw [Pins.transfer_offer] at hedge
  exact step_eq_commit hedge hd

/-- At an edge with a ready consumer the event a transfer left, if there is one, is taken. -/
theorem step_commit_of_ready {s : State} (e : InEvent) {rest : List Pins} (hin : s.inputs = Pins.ready :: rest)
    (hv : s.outValid = false) :
    ∃ s', step (s.commit (s.block.step s.mark141 e)) = .next s' ∧ s.Played [.transfer e] rest s' := by
  have hrun := Block.run_singleton s.mark141 s.block (.transfer e)
  rw [Block.token] at hrun
  generalize s.block.step s.mark141 e = r at hrun ⊢
  obtain ⟨st, out⟩ := r
  have hin' := (s.commit_inputs (st, out)).trans hin
  cases out with
  | none =>
    refine ⟨_, step_of_quiet (edge_of_idle hin' rfl hv rfl), ?_⟩
    constructor
    case block => rw [hrun]; rfl
    case outValid => exact hv
    all_goals simp [hrun]
  | some ev =>
    refine ⟨_, step_of_quiet (edge_of_held hin' rfl rfl), ?_⟩
    rw [if_pos (show Pins.ready.outReady = true from rfl)]
    constructor
    case block | taken => rw [hrun]; rfl
    all_goals simp [hrun]

/-- The two edges of one transfer that has a class: it runs, and the event it may have caused is taken. -/
theorem core_run_transfer {s : State} {e : InEvent} {i : Instr} {rest : List Pins}
    (hin : s.inputs = (Token.transfer e).pins ++ rest) (hv : s.outValid = false)
    (hd : decode s.mark141 s.sync s.cnt e = some i) :
    ∃ s' : State, Sys2Proof.core.run 2 s = .next s' ∧ s.Played [.transfer e] rest s' := by
  rw [Token.pins_transfer, List.cons_append, List.singleton_append] at hin
  have hfirst := step_of_offer hin hv hd
  obtain ⟨s', hsecond, hplayed⟩ := step_commit_of_ready (s := s.afterSample (Pins.ready :: rest)) e rfl hv
  refine ⟨s', ?_, hplayed.of_afterSample⟩
  rw [core_run_succ_of_next hfirst]
  exact core_run_succ_of_next hsecond

/-- Transfers from a block with a count that a run reaches (10_state.md R21): every one of them has a class. -/
theorem core_run_transfers {es : List InEvent} {s : State} {rest : List Pins}
    (hin : s.inputs = (es.map Token.transfer).flatMap Token.pins ++ rest) (hv : s.outValid = false)
    (hc : s.cnt.toNat ≤ 16) :
    ∃ s' : State, Sys2Proof.core.run (2 * es.length) s = .next s' ∧ s.Played (es.map Token.transfer) rest s' := by
  induction es generalizing s with
  | nil =>
    obtain rfl : s.inputs = rest := hin
    exact ⟨s, rfl, .nil hv⟩
  | cons e es ih =>
    rw [List.map_cons, List.flatMap_cons, List.append_assoc] at hin
    obtain ⟨i, hd⟩ := decode_total s.mark141 s.sync e hc
    obtain ⟨t, hrun, hplayed⟩ := core_run_transfer hin hv hd
    have hct : t.cnt.toNat ≤ 16 := by
      rw [← State.block_cnt, hplayed.block, Block.run_singleton]
      exact Block.step_cnt_le hc s.mark141 e
    obtain ⟨u, hrun', hplayed'⟩ := ih hplayed.inputs hplayed.outValid hct
    refine ⟨u, ?_, hplayed.append hplayed'⟩
    rw [List.length_cons, Nat.mul_succ, Nat.add_comm, core_run_add hrun, hrun']

/-! A whole frame (30_encoding.md R93). -/

/-- A frame's marker is classified as the frame it names (30_encoding.md R93; 40_synchronizer.md R101, R102). -/
theorem classify_frameMarker (m : Mark141) (kind : Source) {r : BitVec 3} (h : r.toNat ≤ 6) :
    classify m (frameMarker kind r) = .frame kind r := by
  have codes : ∀ c : BitVec 3, c.toNat ≤ 6 → classify m (frameMarker kind c) = .frame kind c := by
    cases m <;> cases kind <;> decide
  exact codes r h

/-- Seventeen bytes written from index 0 on are the whole buffer. -/
theorem fillFrom_toList (p q : Payload) : fillFrom p 0 q.toList = q := by
  refine Vector.ext fun i hi => ?_
  have h := fillFrom_get_of_le (bs := q.toList) (p := p) ⟨i, hi⟩ (Nat.zero_le i) (by simpa using hi)
  simpa [hi, eq_comm] using h

/-- A payload from its first byte on is decoded from the bytes received, whatever the buffer held (41_payload_decoder.md R131). -/
theorem Block.run_payload (m : Mark141) {st : Block} (hs : st.sync = .payloadExpected) (hc : st.cnt = 0) (p : Payload) :
    st.run m (p.toList.map Token.byte) =
      ({ st with sync := .awaitingSync, cnt := 0, buf := p }, [decodeEvent p st.src st.rc]) := by
  have hfill : fillFrom st.buf st.cnt.toNat p.toList = p := by rw [hc]; exact fillFrom_toList st.buf p
  rw [Block.run_complete_payload m hs (by simp [hc]) (by simp [hc]), hfill]

/-- The block at the start of a frame's payload (40_synchronizer.md R101, R102). -/
def Block.inFrame (st : Block) (kind : Source) (r : BitVec 3) : Block :=
  { st with sync := .payloadExpected, src := kind, rc := r, cnt := 0 }

theorem Block.run_frameMarker (m : Mark141) {st : Block} (hs : st.sync = .awaitingSync) (kind : Source) {r : BitVec 3}
    (hr : r.toNat ≤ 6) : st.run m [Token.byte (frameMarker kind r)] = (st.inFrame kind r, []) := by
  rw [Block.run_singleton, Token.byte, Block.token, Block.step_marker hs, classify_frameMarker m kind hr]
  rfl

/-- At transaction level a whole frame gives its decode and leaves the block awaiting sync, with the frame's source, range code
and bytes (41_payload_decoder.md R130, R131). -/
theorem Block.run_frame (m : Mark141) {st : Block} (hs : st.sync = .awaitingSync) (kind : Source) {r : BitVec 3}
    (hr : r.toNat ≤ 6) (p : Payload) :
    st.run m (Token.frame kind r p) =
      ({ sync := .awaitingSync, src := kind, rc := r, cnt := 0, buf := p }, [decodeEvent p kind r]) := by
  rw [Token.frame, ← List.singleton_append, Block.run_append, Block.run_frameMarker m hs kind hr,
    Block.run_payload m (st := st.inFrame kind r) rfl rfl p]
  rfl

theorem Token.frame_eq_transfers (kind : Source) (r : BitVec 3) (p : Payload) :
    Token.frame kind r p =
      [.transfer (.byte (frameMarker kind r))] ++ (p.toList.map InEvent.byte).map Token.transfer := by
  rw [List.map_map]
  rfl

/-- A whole frame at the ports: the marker has a class whatever the count, and leaves the count at 0 for the seventeen bytes. -/
theorem core_run_frame {kind : Source} {r : BitVec 3} {p : Payload} {rest : List Pins} {s : State} (hr : r.toNat ≤ 6)
    (hs : s.sync = .awaitingSync) (hv : s.outValid = false)
    (hin : s.inputs = (Token.frame kind r p).flatMap Token.pins ++ rest) :
    ∃ s' : State, Sys2Proof.core.run 36 s = .next s' ∧ s.Played (Token.frame kind r p) rest s' := by
  rw [Token.frame_eq_transfers, List.flatMap_append, List.flatMap_singleton, List.append_assoc] at hin
  obtain ⟨i, hi⟩ := markerInstr_classify_total s.mark141 (frameMarker kind r)
  have hd : decode s.mark141 s.sync s.cnt (.byte (frameMarker kind r)) = some i := by rw [hs]; exact hi
  obtain ⟨t, hrun, hmarker⟩ := core_run_transfer hin hv hd
  have hblock : t.block = s.block.inFrame kind r :=
    hmarker.block.trans (congrArg Prod.fst (Block.run_frameMarker s.mark141 (st := s.block) hs kind hr))
  have hc : t.cnt.toNat ≤ 16 := by
    rw [← State.block_cnt, hblock]
    exact Nat.zero_le 16
  obtain ⟨u, hrun', hpayload⟩ := core_run_transfers hmarker.inputs hmarker.outValid hc
  rw [List.length_map, Vector.length_toList] at hrun'
  refine ⟨u, (core_run_add hrun).trans hrun', ?_⟩
  rw [Token.frame_eq_transfers]
  exact hmarker.append hpayload

/-- Settles O53: the edges are the fold of the frame's tokens, and `Block.run_frame` is what that fold gives. -/
theorem wholeFrameEmitsItsDecode : Obligations.WholeFrameEmitsItsDecode := by
  unfold Obligations.WholeFrameEmitsItsDecode
  intro kind r p rest s hr hs hv hin
  obtain ⟨s', hrun, hblock, hemitted, htaken, hvalid, hmark, hinputs⟩ := core_run_frame hr hs hv hin
  rw [Block.run_frame _ hs kind hr p] at hblock hemitted htaken
  obtain ⟨hsync, hsrc, hrc, hcnt, hbuf⟩ := Block.mk.inj hblock
  exact ⟨s', hrun, hemitted, htaken, hvalid, hsync, hcnt, hsrc, hrc, hbuf, hmark, hinputs⟩

end Sys2Proof.Machine
end

section
/-! SUPPORT. What `classify` answers, one equivalence for each verdict (30_encoding.md R61 to R65; 40_synchronizer.md R100), by the
value of the byte. -/

namespace Sys2Proof

/-- A bit of a byte by the byte's value. -/
theorem getLsbD_eq_decide (b : Byte) (k : Nat) : b.getLsbD k = decide (b.toNat / 2 ^ k % 2 = 1) := by
  rw [← BitVec.testBit_toNat, Nat.testBit_eq_decide_div_mod_eq]

theorem bit7_eq_false_iff (b : Byte) : b.getLsbD 7 = false ↔ b.toNat ≤ 0x7F := by
  rw [getLsbD_eq_decide, decide_eq_false_iff_not]
  omega

/-- The marker bases (00_scope.md R10) are multiples of 8, so a frame's range code is the low three bits of its marker. -/
theorem sub_preBase_setWidth (b : Byte) : (b - Config.preBase).setWidth 3 = b.setWidth 3 := by
  simp only [Config.preBase]
  bv_omega

theorem sub_liveBase_setWidth (b : Byte) : (b - Config.liveBase).setWidth 3 = b.setWidth 3 := by
  simp only [Config.liveBase]
  bv_omega

/-- The priority chain of 30_encoding.md R65, each test on the byte's value. -/
theorem classify_eq (m : Mark141) (b : Byte) :
    classify m b =
      if b.toNat ≤ 0x7F then .needMore
      else if b.toNat ≤ 0x86 then .frame .preRecorded (b.setWidth 3)
      else if 0xA0 ≤ b.toNat ∧ b.toNat ≤ 0xA6 then .frame .live (b.setWidth 3)
      else if b.toNat = 0x90 then .endMarker
      else if b.toNat = 0x8D ∧ m = .distinctEnd then .endMarkerUnconfirmed
      else .unknownMarker b := by
  have hpre : Config.preBase ≤ b ∧ b ≤ Config.preBase + 6 ↔ 0x80 ≤ b.toNat ∧ b.toNat ≤ 0x86 := Iff.rfl
  have hlive : Config.liveBase ≤ b ∧ b ≤ Config.liveBase + 6 ↔ 0xA0 ≤ b.toNat ∧ b.toNat ≤ 0xA6 := Iff.rfl
  have hend : b = Config.endByte ↔ b.toNat = 0x90 := BitVec.toNat_inj.symm
  have hunconf : b = Config.endUnconfByte ↔ b.toNat = 0x8D := BitVec.toNat_inj.symm
  simp only [classify, bit7_eq_false_iff, hpre, hlive, hend, hunconf, sub_preBase_setWidth, sub_liveBase_setWidth]
  split_ifs <;> grind

theorem classify_eq_needMore_iff (m : Mark141) (b : Byte) : classify m b = .needMore ↔ b.toNat ≤ 0x7F := by
  rw [classify_eq]
  split_ifs with h <;> simp [h]

theorem classify_eq_frame_iff (m : Mark141) (b : Byte) (kind : Source) (rc : BitVec 3) :
    classify m b = .frame kind rc ↔
      (kind = .preRecorded ∧ 0x80 ≤ b.toNat ∧ b.toNat ≤ 0x86 ∨ kind = .live ∧ 0xA0 ≤ b.toNat ∧ b.toNat ≤ 0xA6) ∧
        b.setWidth 3 = rc := by
  rw [classify_eq]
  split_ifs <;> grind

theorem classify_eq_endMarker_iff (m : Mark141) (b : Byte) : classify m b = .endMarker ↔ b = 0x90 := by
  rw [classify_eq, ← BitVec.toNat_inj]
  split_ifs <;> grind

theorem classify_eq_endMarkerUnconfirmed_iff (m : Mark141) (b : Byte) :
    classify m b = .endMarkerUnconfirmed ↔ b = 0x8D ∧ m = .distinctEnd := by
  rw [classify_eq, ← BitVec.toNat_inj]
  split_ifs <;> grind

/-- The operand line of UNKNOWN (40_synchronizer.md R108), on the byte's value. -/
theorem unknown_wf_iff (m : Mark141) (b : Byte) :
    (Instr.unknown b).wf m = true ↔
      0x87 ≤ b.toNat ∧ ¬ (0xA0 ≤ b.toNat ∧ b.toNat ≤ 0xA6) ∧ b.toNat ≠ 0x90 ∧ ¬ (b.toNat = 0x8D ∧ m = .distinctEnd) := by
  have hbit : b.getLsbD 7 = true ↔ ¬ b.toNat ≤ 0x7F := by rw [← bit7_eq_false_iff, Bool.not_eq_false]
  simp only [Instr.wf, isFramePre, isFrameLive, Bool.and_eq_true, hbit]
  simp only [BitVec.le_def, BitVec.toNat_ofNat, Nat.reducePow, Nat.reduceMod, Bool.not_and, Bool.or_eq_true,
    Bool.not_eq_eq_eq_not, Bool.not_true, decide_eq_false_iff_not, bne_iff_ne, ne_eq, ← BitVec.toNat_inj,
    beq_eq_false_iff_ne, not_and]
  grind

theorem classify_eq_unknownMarker_iff (m : Mark141) (b c : Byte) :
    classify m b = .unknownMarker c ↔ b = c ∧ (Instr.unknown b).wf m = true := by
  rw [classify_eq, unknown_wf_iff]
  split_ifs <;> grind

end Sys2Proof
end

section
/-! SUPPORT. The marker table of 30_encoding.md R61 and the bit fields of a frame marker (R62 to R64). -/

namespace Sys2Proof

/-- Settles O4: the ranges are those of the verdicts' equivalences; the counts are evaluated. -/
theorem byteClassesAwaitingSync : Obligations.ByteClassesAwaitingSync := by
  unfold Obligations.ByteClassesAwaitingSync
  refine ⟨fun m b => ⟨?needMore, ?framePre, ?frameLive, ?endMarker, ?byte141, ?unknown⟩, ?counts⟩
  case needMore => exact (classify_eq_needMore_iff m b).2
  case framePre =>
    intro h
    refine (classify_eq_frame_iff m b _ _).2 ⟨.inl ⟨rfl, h⟩, ?_⟩
    bv_omega
  case frameLive =>
    intro h
    refine (classify_eq_frame_iff m b _ _).2 ⟨.inr ⟨rfl, h⟩, ?_⟩
    bv_omega
  case endMarker => exact fun h => (classify_eq_endMarker_iff m b).2 (BitVec.eq_of_toNat_eq h)
  case byte141 =>
    intro h
    cases m with
    | distinctEnd => exact (classify_eq_endMarkerUnconfirmed_iff _ b).2 ⟨BitVec.eq_of_toNat_eq h, rfl⟩
    | unknown => exact (classify_eq_unknownMarker_iff _ b b).2 ⟨rfl, (unknown_wf_iff _ b).2 (by simp [h])⟩
  case unknown =>
    intro h
    refine (classify_eq_unknownMarker_iff m b b).2 ⟨rfl, (unknown_wf_iff m b).2 ?_⟩
    omega
  case counts => decide +kernel

/-- Bits 7 to 3 of a frame marker and its low three bits below 7 (30_encoding.md R62, R63, R64), as the range of the marker's
value: the marker is its base and a code 0 to 6. -/
theorem frameMarker_bits_iff (b : Byte) (live : Bool) :
    (b.getLsbD 7 = true ∧ b.getLsbD 6 = false ∧ b.getLsbD 5 = live ∧ b.getLsbD 4 = false ∧ b.getLsbD 3 = false ∧
        b.setWidth 3 ≠ 7) ↔
      if live then 0xA0 ≤ b.toNat ∧ b.toNat ≤ 0xA6 else 0x80 ≤ b.toNat ∧ b.toNat ≤ 0x86 := by
  have hcode : b.setWidth 3 ≠ 7 ↔ b.toNat % 8 ≠ 7 := by rw [ne_eq, ← BitVec.toNat_inj, BitVec.toNat_setWidth]; rfl
  have hbyte := b.isLt
  cases live <;>
    simp only [hcode, getLsbD_eq_decide, decide_eq_true_eq, decide_eq_false_iff_not, Bool.false_eq_true, if_false, if_true] <;>
    omega

/-- Settles O5: a frame marker's range is its fixed bits, one range for each source. -/
theorem frameMarkerBitFields : Obligations.FrameMarkerBitFields := by
  unfold Obligations.FrameMarkerBitFields
  intro m b kind rc
  have hlow : b.extractLsb' 0 3 = b.setWidth 3 := BitVec.setWidth_eq_extractLsb' (by decide) |>.symm
  have hbits := frameMarker_bits_iff b (kind == .live)
  rw [classify_eq_frame_iff, hlow]
  cases kind <;> grind

end Sys2Proof
end

section
/-! SUPPORT. Decoder and encoder are inverse (30_encoding.md R61, R75): `decode_eq_some_iff` says which class a transfer is, by the
class's own well-formedness, row and encoding. -/

namespace Sys2Proof

theorem needmore_wf_iff (m : Mark141) (b : Byte) : (Instr.needmore b).wf m = true ↔ b.getLsbD 7 = false := by
  rw [Instr.wf, Bool.not_eq_true']

theorem appliesIn_payloadByte_iff {m : Mark141} {sync : Sync} {cnt : BitVec 5} {b : Byte} :
    (Instr.payloadByte b).appliesIn m sync cnt = true ↔ sync = .payloadExpected ∧ cnt.toNat < 16 := by
  simp [Instr.appliesIn]

theorem appliesIn_payloadLast_iff {m : Mark141} {sync : Sync} {cnt : BitVec 5} {b : Byte} :
    (Instr.payloadLast b).appliesIn m sync cnt = true ↔ sync = .payloadExpected ∧ cnt.toNat = 16 := by
  simp [Instr.appliesIn]

theorem appliesIn_endUnconf_iff {m : Mark141} {sync : Sync} {cnt : BitVec 5} :
    Instr.endUnconf.appliesIn m sync cnt = true ↔ sync = .awaitingSync ∧ m = .distinctEnd := by
  simp [Instr.appliesIn]

/-- A well-formed class is what its encoding decodes to, wherever its row applies. -/
theorem decode_encode {m : Mark141} {sync : Sync} {cnt : BitVec 5} {i : Instr} (hw : i.wf m = true)
    (ha : i.appliesIn m sync cnt = true) : decode m sync cnt (encode i) = some i := by
  cases i with
  | abort => rfl
  | payloadByte b =>
    obtain ⟨rfl, hc⟩ := appliesIn_payloadByte_iff.1 ha
    simp [encode, decode, payloadInstr, hc]
  | payloadLast b =>
    obtain ⟨rfl, hc⟩ := appliesIn_payloadLast_iff.1 ha
    simp [encode, decode, payloadInstr, hc]
  | needmore b =>
    obtain rfl : sync = .awaitingSync := eq_of_beq ha
    have hb := (bit7_eq_false_iff b).1 ((needmore_wf_iff m b).1 hw)
    simp only [encode, decode, (classify_eq_needMore_iff m b).2 hb, markerInstr]
  | endMarker =>
    obtain rfl : sync = .awaitingSync := eq_of_beq ha
    simp only [encode, decode, (classify_eq_endMarker_iff m _).2, markerInstr]
  | endUnconf =>
    obtain ⟨rfl, hm⟩ := appliesIn_endUnconf_iff.1 ha
    simp only [encode, decode, (classify_eq_endMarkerUnconfirmed_iff m _).2 ⟨rfl, hm⟩, markerInstr]
  | unknown b =>
    obtain rfl : sync = .awaitingSync := eq_of_beq ha
    simp only [encode, decode, (classify_eq_unknownMarker_iff m b b).2 ⟨rfl, hw⟩, markerInstr]
  | _ =>
    obtain rfl : sync = .awaitingSync := eq_of_beq ha
    rfl

/-- A byte classified as a frame is the marker of that frame (30_encoding.md R62, R63, R93). -/
theorem frameMarker_of_classify {m : Mark141} {b : Byte} {kind : Source} {rc : BitVec 3}
    (h : classify m b = .frame kind rc) : Machine.frameMarker kind rc = b := by
  obtain ⟨⟨rfl, hlo, hhi⟩ | ⟨rfl, hlo, hhi⟩, rfl⟩ := (classify_eq_frame_iff m b kind rc).1 h
  all_goals
    simp only [Machine.frameMarker, Config.preBase, Config.liveBase]
    bv_omega

/-- A frame row's class is well formed, and its encoding is the marker of its source and range code. -/
theorem frameInstr_wf_encode {kind : Source} {rc : BitVec 3} {i : Instr} (h : frameInstr kind rc = some i) (m : Mark141) :
    i.wf m = true ∧ encode i = .byte (Machine.frameMarker kind rc) := by
  have hcode : BitVec.ofNat 3 rc.toNat = rc := by simp
  rw [← hcode]
  unfold frameInstr at h
  split at h <;> cases h <;> rename_i hrc <;> rw [hrc] <;> exact ⟨rfl, rfl⟩

/-- The class of a byte while sync is awaited is well formed and encodes to the byte. -/
theorem markerInstr_wf_encode {m : Mark141} {b : Byte} {i : Instr} (h : markerInstr b (classify m b) = some i) :
    i.wf m = true ∧ encode i = .byte b := by
  cases hc : classify m b with
  | frame kind rc =>
    rw [hc] at h
    rw [← frameMarker_of_classify hc]
    exact frameInstr_wf_encode h m
  | needMore =>
    rw [hc] at h; cases h
    have hb := (bit7_eq_false_iff b).2 ((classify_eq_needMore_iff m b).1 hc)
    exact ⟨(needmore_wf_iff m b).2 hb, rfl⟩
  | endMarker =>
    rw [hc] at h; cases h
    obtain rfl := (classify_eq_endMarker_iff m b).1 hc
    exact ⟨rfl, rfl⟩
  | endMarkerUnconfirmed =>
    rw [hc] at h; cases h
    obtain ⟨rfl, rfl⟩ := (classify_eq_endMarkerUnconfirmed_iff m b).1 hc
    exact ⟨rfl, rfl⟩
  | unknownMarker c =>
    rw [hc] at h; cases h
    obtain ⟨rfl, hw⟩ := (classify_eq_unknownMarker_iff m b c).1 hc
    exact ⟨hw, rfl⟩

/-- The class a transfer decodes to is well formed and encodes to the transfer. -/
theorem decode_wf_encode {m : Mark141} {sync : Sync} {cnt : BitVec 5} {e : InEvent} {i : Instr}
    (h : decode m sync cnt e = some i) : i.wf m = true ∧ encode i = e := by
  cases e with
  | abort => cases h; exact ⟨rfl, rfl⟩
  | byte b =>
    cases sync with
    | awaitingSync => exact markerInstr_wf_encode h
    | payloadExpected =>
      simp only [decode, payloadInstr] at h
      split_ifs at h <;> cases h <;> exact ⟨rfl, rfl⟩

/-- A transfer is of a class exactly where the class is well formed, its row applies, and it encodes to the transfer
(30_encoding.md R61, R75). -/
theorem decode_eq_some_iff {m : Mark141} {sync : Sync} {cnt : BitVec 5} {e : InEvent} {i : Instr} :
    decode m sync cnt e = some i ↔ i.wf m = true ∧ i.appliesIn m sync cnt = true ∧ encode i = e := by
  constructor
  · intro h
    obtain ⟨hw, he⟩ := decode_wf_encode h
    exact ⟨hw, decode_appliesIn h, he⟩
  · rintro ⟨hw, ha, rfl⟩
    exact decode_encode hw ha

/-- Which transfers have a class: all but a byte inside a payload at a count that no run reaches (log entry 9). -/
theorem decode_isSome_iff (m : Mark141) (sync : Sync) (cnt : BitVec 5) (e : InEvent) :
    (decode m sync cnt e).isSome = true ↔ (e = .abort ∨ sync = .awaitingSync ∨ cnt.toNat ≤ 16) := by
  rw [Option.isSome_iff_exists]
  constructor
  · rintro ⟨i, h⟩
    cases e with
    | abort => exact .inl rfl
    | byte b =>
      cases sync with
      | awaitingSync => exact .inr (.inl rfl)
      | payloadExpected => exact .inr (.inr (cnt_le_of_decode h rfl))
  · rintro (rfl | rfl | hc)
    · exact ⟨.abort, rfl⟩
    · cases e with
      | abort => exact ⟨.abort, rfl⟩
      | byte b => exact markerInstr_classify_total m b
    · exact decode_total m sync e hc

/-! The numbering of the port word (log entry 11). -/

theorem ofWord_toWord (e : InEvent) : InEvent.ofWord e.toWord = e := by
  cases e with
  | abort => rfl
  | byte b =>
    have hbit : b.toNat.testBit 8 = false := Nat.testBit_eq_false_of_lt b.isLt
    simp [InEvent.toWord, InEvent.ofWord, hbit]

/-- Settles O1: `decode_encode`, and the port word of a transfer names the transfer. -/
theorem encodeThenDecodeIsIdentity : Obligations.EncodeThenDecodeIsIdentity := by
  unfold Obligations.EncodeThenDecodeIsIdentity
  intro m sync cnt i hw ha
  rw [encodeWord, ofWord_toWord]
  exact ⟨decode_encode hw ha, decode_encode hw ha⟩

/-- Settles O2: the other direction of `decode_eq_some_iff`, and the domain of the decoder. -/
theorem decodedClassIsWellFormedAndTotal : Obligations.DecodedClassIsWellFormedAndTotal := by
  unfold Obligations.DecodedClassIsWellFormedAndTotal
  exact fun m sync cnt e => ⟨fun i => decode_eq_some_iff.1, decode_isSome_iff m sync cnt e⟩

/-- Settles O6: each transfer is the encoding of its class, whose row applies there. -/
theorem wordsOfTheTableDecode : Obligations.WordsOfTheTableDecode := by
  unfold Obligations.WordsOfTheTableDecode
  exact ⟨decode_encode (i := .needmore 0x7F) rfl rfl, decode_encode (i := .framePreR3) rfl rfl,
    decode_encode (i := .frameLiveR6) rfl rfl, decode_encode (i := .endMarker) rfl rfl,
    decode_encode (i := .endUnconf) rfl rfl, decode_encode (i := .unknown 0x8D) rfl rfl,
    decode_encode (i := .unknown 0xC8) rfl rfl, decode_encode (i := .payloadByte 0xA2) rfl rfl,
    decode_encode (i := .payloadLast 0x02) rfl rfl, decode_encode (i := .abort) rfl rfl⟩

end Sys2Proof
end

section
/-! SUPPORT. The opcode map of 30_encoding.md R75 by priority: a row of priority below 3 selects transfers of its own class only, no
two rows have a class in common, and UNKNOWN is the one row of priority 3. -/

namespace Sys2Proof

theorem Row.selects_byte_iff {r : Row} {m : Mark141} {sync : Sync} {cnt : BitVec 5} {b : Byte} :
    r.selects m sync cnt (.byte b) = true ↔
      r.state.holds sync cnt = true ∧ (r.needsDistinctEnd = true → m = .distinctEnd) ∧ r.priority ≠ 0 ∧
        b &&& r.mask = r.matchBits := by
  cases hn : r.needsDistinctEnd <;> simp [Row.selects, hn, and_assoc]

theorem Row.selects_abort_iff {r : Row} {m : Mark141} {sync : Sync} {cnt : BitVec 5} :
    r.selects m sync cnt .abort = true ↔
      r.state.holds sync cnt = true ∧ (r.needsDistinctEnd = true → m = .distinctEnd) ∧ r.priority = 0 := by
  cases hn : r.needsDistinctEnd <;> simp [Row.selects, hn, and_assoc]

/-! The mask of NEEDMORE and UNKNOWN keeps bit 7. -/

theorem and_bit7_eq_zero_iff (b : Byte) : b &&& 0x80#8 = 0x00#8 ↔ b.getLsbD 7 = false := by
  rw [show b &&& 0x80#8 = _ from BitVec.and_twoPow b 7]
  cases b.getLsbD 7 <;> decide

theorem and_bit7_eq_self_iff (b : Byte) : b &&& 0x80#8 = 0x80#8 ↔ b.getLsbD 7 = true := by
  rw [show b &&& 0x80#8 = _ from BitVec.and_twoPow b 7]
  cases b.getLsbD 7 <;> decide

/-- An exact-match row reads every bit of the byte, and a byte only while sync is awaited. -/
theorem Row.selects_exact_byte_iff {name : String} {c : Byte} {i : Instr} {m : Mark141} {sync : Sync} {cnt : BitVec 5}
    {b : Byte} : (Row.exact name c i).selects m sync cnt (.byte b) = true ↔ sync = .awaitingSync ∧ b = c := by
  have hmask : b &&& 0xFF#8 = b := BitVec.and_allOnes
  simp [Row.selects_byte_iff, Row.exact, RowState.holds, hmask]

/-- Each class has its row in the table, and where the class applies the row selects the class's encoding. -/
theorem exists_row {m : Mark141} {sync : Sync} {cnt : BitVec 5} {i : Instr} (hw : i.wf m = true)
    (ha : i.appliesIn m sync cnt = true) :
    ∃ r ∈ opcodeTable, r.instr (encode i) = i ∧ r.selects m sync cnt (encode i) = true := by
  have mem {r : Row} : opcodeTable[i.ctorIdx]? = some r → r ∈ opcodeTable := List.mem_of_getElem?
  cases i with
  | needmore b =>
    have hmask := (and_bit7_eq_zero_iff b).2 ((needmore_wf_iff m b).1 hw)
    exact ⟨_, mem rfl, rfl, Row.selects_byte_iff.2 ⟨ha, by simp, by simp, hmask⟩⟩
  | unknown b =>
    obtain ⟨hlo, _⟩ := (unknown_wf_iff m b).1 hw
    have hbit : b.getLsbD 7 = true := by
      rw [← Bool.not_eq_false, bit7_eq_false_iff]
      omega
    exact ⟨_, mem rfl, rfl, Row.selects_byte_iff.2 ⟨ha, by simp, by simp, (and_bit7_eq_self_iff b).2 hbit⟩⟩
  | endUnconf =>
    obtain ⟨rfl, rfl⟩ := appliesIn_endUnconf_iff.1 ha
    exact ⟨_, mem rfl, rfl, rfl⟩
  | payloadByte b | payloadLast b =>
    exact ⟨_, mem rfl, rfl, Row.selects_byte_iff.2 ⟨ha, by simp, by simp, by simp⟩⟩
  | abort => exact ⟨_, mem rfl, rfl, rfl⟩
  | _ => exact ⟨_, mem rfl, rfl, Row.selects_exact_byte_iff.2 ⟨eq_of_beq ha, rfl⟩⟩

/-- The row selects transfers of its own class only. -/
def Row.Decodes (r : Row) : Prop :=
  ∀ (m : Mark141) (sync : Sync) (cnt : BitVec 5) (e : InEvent), r.selects m sync cnt e = true →
    decode m sync cnt e = some (r.instr e)

theorem Row.exact_decodes {c : Byte} {i : Instr} (h : ∀ m cnt, decode m .awaitingSync cnt (.byte c) = some i)
    (name : String) : (Row.exact name c i).Decodes := by
  intro m sync cnt e hs
  cases e with
  | abort => simp [Row.selects_abort_iff, Row.exact] at hs
  | byte b =>
    obtain ⟨rfl, rfl⟩ := Row.selects_exact_byte_iff.1 hs
    exact h m cnt

/-- A row that selects bytes only does so where its class is well formed, applies and is the byte's. -/
theorem Row.decodes_of_byte {r : Row} (hp : r.priority ≠ 0)
    (h : ∀ m sync cnt b, r.state.holds sync cnt = true → (r.needsDistinctEnd = true → m = .distinctEnd) →
      b &&& r.mask = r.matchBits →
        (r.make b).wf m = true ∧ (r.make b).appliesIn m sync cnt = true ∧ encode (r.make b) = .byte b) : r.Decodes := by
  intro m sync cnt e hs
  cases e with
  | abort =>
    obtain ⟨_, _, h0⟩ := Row.selects_abort_iff.1 hs
    exact absurd h0 hp
  | byte b =>
    obtain ⟨hst, hm, _, hb⟩ := Row.selects_byte_iff.1 hs
    exact decode_eq_some_iff.2 (h m sync cnt b hst hm hb)

/-- Of all rows only UNKNOWN, the one of priority 3, selects transfers of other classes too: every byte with bit 7 set. -/
theorem decodes_of_mem_opcodeTable : ∀ r ∈ opcodeTable, r.priority ≠ 3 → r.Decodes := by
  refine List.forall_iff_forall_mem.1 ?_
  refine ⟨fun _ => Row.decodes_of_byte (by simp) fun m _ _ b hst _ hb =>
    ⟨(needmore_wf_iff m b).2 ((and_bit7_eq_zero_iff b).1 hb), hst, rfl⟩, ?_⟩
  iterate 15 refine ⟨fun _ => Row.exact_decodes (fun _ _ => rfl) _, ?_⟩
  refine ⟨fun _ => Row.decodes_of_byte (by simp [Row.exact]) ?endUnconf, fun h => absurd rfl h,
    fun _ => Row.decodes_of_byte (by simp) ?payloadByte, fun _ => Row.decodes_of_byte (by simp) ?payloadLast,
    fun _ => ?abort⟩
  case endUnconf =>
    intro m sync cnt b hst hm hb
    have hmask : b &&& 0xFF#8 = b := BitVec.and_allOnes
    obtain rfl : b = 0x8D := hmask.symm.trans hb
    obtain rfl := hm rfl
    exact ⟨rfl, appliesIn_endUnconf_iff.2 ⟨eq_of_beq hst, rfl⟩, rfl⟩
  case payloadByte | payloadLast => exact fun m sync cnt b hst _ _ => ⟨rfl, hst, rfl⟩
  case abort =>
    intro m sync cnt e hs
    cases e with
    | abort => rfl
    | byte b => simp [Row.selects_byte_iff] at hs

/-- A row's class names the row: the rows stand in the order of the constructors of `Instr`. -/
theorem opcodeTable_get_ctorIdx (e : InEvent) : ∀ r ∈ opcodeTable, opcodeTable[(r.instr e).ctorIdx]? = some r := by
  refine List.forall_iff_forall_mem.1 ?_
  cases e <;> and_intros <;> rfl

theorem opcodeTable_priority : ∀ r ∈ opcodeTable, r.priority ≤ 3 ∧ (r.priority = 3 → r.mnemonic = "UNKNOWN") := by
  decide

/-- Settles O3: the row of the decoded class selects the transfer; another row that does is UNKNOWN, or decodes to the same class
and so is the same row. -/
theorem decodeFollowsOpcodeTablePriority : Obligations.DecodeFollowsOpcodeTablePriority := by
  unfold Obligations.DecodeFollowsOpcodeTablePriority
  intro m sync cnt e hc
  have hclass : e = .abort ∨ sync = .awaitingSync ∨ cnt.toNat ≤ 16 := by cases sync <;> simp [hc]
  obtain ⟨i, hd⟩ := Option.isSome_iff_exists.1 ((decode_isSome_iff m sync cnt e).2 hclass)
  obtain ⟨hw, ha, rfl⟩ := decode_eq_some_iff.1 hd
  obtain ⟨r, hr, hi, hsel⟩ := exists_row hw ha
  obtain ⟨hle, hunknown⟩ := opcodeTable_priority r hr
  refine ⟨r, hr, hsel, by rw [hi, hd], fun r' hr' hsel' => ?_⟩
  by_cases hlast : r'.priority = 3
  · rw [hlast, (opcodeTable_priority r' hr').2 hlast]
    exact ⟨hle, fun h => (hunknown h.symm).symm⟩
  · have hd' := decodes_of_mem_opcodeTable r' hr' hlast m sync cnt (encode i) hsel'
    have hsame : r'.instr (encode i) = r.instr (encode i) := by rw [hi, Option.some.inj (hd'.symm.trans hd)]
    have hrow := opcodeTable_get_ctorIdx (encode i) r hr
    rw [← hsame, opcodeTable_get_ctorIdx (encode i) r' hr'] at hrow
    obtain rfl := Option.some.inj hrow
    exact ⟨le_rfl, fun _ => rfl⟩

end Sys2Proof
end

section
/-! SUPPORT. The output ports (30_encoding.md R82 to R84, R90, R92): what the consumer reads from them is the event held. -/

namespace Sys2Proof.Machine

theorem sourceCode_eq_one_iff (src : Source) : sourceCode src = 1 ↔ src = .preRecorded := by
  cases src <;> decide

theorem syncCode_eq_one_iff (sync : Sync) : syncCode sync = 1 ↔ sync = .payloadExpected := by
  cases sync <;> decide

/-- The source a port code stands for (30_encoding.md R81). -/
def sourceOfCode (c : BitVec 1) : Source := if c = 1 then .preRecorded else .live

/-- The error a port code stands for (30_encoding.md R83); 0 stands for none. -/
def errOfCode (c : BitVec 2) : DecodeErr :=
  if c = 1 then .invalidDigit else if c = 2 then .invalidTimestamp else .invalidRange

/-- The phase a port code stands for (30_encoding.md R84). -/
def phaseOfCode (c : BitVec 1) : Phase := if c = 1 then .payload else .sync

theorem sourceOfCode_sourceCode (src : Source) : sourceOfCode (sourceCode src) = src := by
  cases src <;> rfl

theorem errOfCode_errCode (code : DecodeErr) : errOfCode (errCode code) = code := by
  cases code <;> rfl

theorem phaseOfCode_phaseCode (phase : Phase) : phaseOfCode (phaseCode phase) = phase := by
  cases phase <;> rfl

/-- The event a consumer reads from the ports, by the tag (30_encoding.md R82). -/
def EventPorts.readEvent (p : EventPorts) : OutEvent :=
  if p.outTag = 0 then
    .record
      { source := sourceOfCode p.outSrc, yy := p.recYy, month := p.recMonth, day := p.recDay, hour := p.recHour,
        minute := p.recMin, second := p.recSec, dbTenths := p.recDb, flags := p.recFlags, unknownBits := p.recUnknown,
        rangeLow := p.recRlow, rangeHigh := p.recRhigh }
  else if p.outTag = 1 then .decodeError (sourceOfCode p.outSrc) (errOfCode p.outErr)
  else if p.outTag = 2 then .unknownMarker p.outByte
  else if p.outTag = 3 then .endMarker p.outByte
  else if p.outTag = 4 then .endUnconfirmed p.outByte
  else .transport (phaseOfCode p.outPhase) p.outCount

/-- What is read is what was shown: the tag tells the kind of event, and its ports the fields. -/
theorem readEvent_eventPorts (ev : OutEvent) : (eventPorts ev).readEvent = ev := by
  cases ev with
  | record r =>
    have hread : (eventPorts (.record r)).readEvent = .record { r with source := sourceOfCode (sourceCode r.source) } := rfl
    rw [hread, sourceOfCode_sourceCode]
  | decodeError src code =>
    exact congrArg₂ OutEvent.decodeError (sourceOfCode_sourceCode src) (errOfCode_errCode code)
  | transport phase count => exact congrArg (OutEvent.transport · count) (phaseOfCode_phaseCode phase)
  | unknownMarker b | endMarker b | endUnconfirmed b => rfl

/-- Settles O39: a consumer that reads the ports has the event. -/
theorem outputPortsDetermineTheEvent : Obligations.OutputPortsDetermineTheEvent := by
  unfold Obligations.OutputPortsDetermineTheEvent
  exact Function.LeftInverse.injective readEvent_eventPorts

theorem eventTag_le (ev : OutEvent) : (eventTag ev).toNat ≤ 5 := by
  cases ev <;> simp [eventTag]

theorem eventPorts_outTag (ev : OutEvent) : (eventPorts ev).outTag = eventTag ev := by
  cases ev <;> rfl

theorem errCode_ne_zero (code : DecodeErr) : errCode code ≠ 0 := by
  cases code <;> decide

theorem State.ports_event (rst : Bool) (s : State) :
    (s.ports rst).event = if s.outValid then eventPorts s.outReg else { } := rfl

/-- Settles O38: the ports by whether an event is held, then the fields and codes of each tag. -/
theorem outputPortsShowTheHeldEvent : Obligations.OutputPortsShowTheHeldEvent := by
  unfold Obligations.OutputPortsShowTheHeldEvent
  refine ⟨fun s rst hv => ⟨?empty, hv⟩, fun s rst hv => ⟨?held, hv⟩, fun ev => ⟨eventPorts_outTag ev, eventTag_le ev⟩,
    fun _ => rfl, fun _ code => ⟨rfl, errCode_ne_zero code⟩, ⟨rfl, rfl, rfl⟩, ⟨rfl, rfl⟩, fun _ => ⟨rfl, rfl, rfl⟩,
    fun _ => ⟨rfl, rfl⟩⟩
  case empty => simp [State.ports_event, hv]
  case held => simp [State.ports_event, hv]

/-- The status ports read the transaction-level state alone, whatever `rst` is (30_encoding.md R92). -/
theorem State.ports_status_of_block_eq {s t : State} (h : t.block = s.block) (rst rst' : Bool) :
    (t.ports rst').stSync = (s.ports rst).stSync ∧ (t.ports rst').stCnt = (s.ports rst).stCnt ∧
      (t.ports rst').stSrc = (s.ports rst).stSrc ∧ (t.ports rst').stRc = (s.ports rst).stRc :=
  ⟨congrArg (fun b : Block => syncCode b.sync) h, congrArg Block.cnt h,
    congrArg (fun b : Block => sourceCode b.src) h, congrArg Block.rc h⟩

/-- Settles O40: the ports show the block, which an edge without a token holds. -/
theorem statusPortShowsTheSequencer : Obligations.StatusPortShowsTheSequencer := by
  unfold Obligations.StatusPortShowsTheSequencer
  constructor
  · exact fun s rst => ⟨syncCode_eq_one_iff s.sync, rfl, sourceCode_eq_one_iff s.src, rfl⟩
  · intro s s' rst rst' h ht
    exact State.ports_status_of_block_eq (step_block_of_no_token h ht) rst rst'

end Sys2Proof.Machine
end

section
/-! SUPPORT. When a class runs, and what an edge is by its ports (30_encoding.md R75, R91; 20_memory.md R55). -/

namespace Sys2Proof.Machine

theorem transact_eq_outputHeld_iff (i : Instr) (effect : State → State) (s : State) :
    transact i effect s = .refused .outputHeld ↔ s.outValid = true := by
  unfold transact
  split_ifs with hv ha <;> simp [hv]

theorem transact_eq_outsideItsState_iff (i : Instr) (effect : State → State) (s : State) :
    transact i effect s = .refused .outsideItsState ↔
      s.outValid = false ∧ i.appliesIn s.mark141 s.sync s.cnt = false := by
  unfold transact
  split_ifs with hv ha
  · simp [hv]
  · simp [ha]
  · simp [hv, ha]

/-- Settles O12: every class is `transact` of its effect, whose three outcomes these are. -/
theorem transferRunsExactlyWhereItsRowApplies : Obligations.TransferRunsExactlyWhereItsRowApplies := by
  unfold Obligations.TransferRunsExactlyWhereItsRowApplies
  intro i s
  rw [exec_eq_transact]
  refine ⟨⟨?runs, fun ⟨hv, ha⟩ => ⟨effectOf i s, transact_of_applies _ hv ha⟩⟩, transact_eq_outputHeld_iff i _ s,
    transact_eq_outsideItsState_iff i _ s⟩
  case runs =>
    rintro ⟨s', h⟩
    obtain ⟨hv, ha, _⟩ := (transact_eq_next_iff i _ s s').1 h
    exact ⟨hv, ha⟩

/-- Settles O7: the edge accepts the transfer, and the step runs its class. -/
theorem stepRunsDecodedTransfer : Obligations.StepRunsDecodedTransfer := by
  unfold Obligations.StepRunsDecodedTransfer
  intro s p rest i hin hr hv hi hd
  exact step_of_transfer (edge_of_offer hin hr hv hi) hd

/-- Settles O8: the three edges without reset that accept nothing. -/
theorem edgeWithoutTransferHoldsTheBlock : Obligations.EdgeWithoutTransferHoldsTheBlock := by
  unfold Obligations.EdgeWithoutTransferHoldsTheBlock
  refine ⟨fun s hin => step_of_quiet (edge_of_no_sample hin), fun s p rest hin hr hv => step_of_quiet ?_,
    fun s p rest hin hr hv hi => step_of_quiet (edge_of_idle hin hr hv hi)⟩
  exact edge_of_held hin hr hv

end Sys2Proof.Machine
end

section
/-! SUPPORT. The observer of the output (30_encoding.md R91): what a step adds to the events emitted it adds to those taken or
held, and only a reset discards, at most the event held. -/

namespace Sys2Proof.Machine

/-- Every event that has left the block or is about to: taken, then held. -/
def State.delivered (s : State) : List OutEvent := s.taken ++ s.held

theorem State.held_of_outValid {s : State} (h : s.outValid = true) : s.held = [s.outReg] := if_pos h

theorem State.held_of_not_outValid {s : State} (h : s.outValid = false) : s.held = [] := by simp [State.held, h]

theorem State.delivered_eq {s t : State} (htaken : t.taken = s.taken) (hvalid : t.outValid = s.outValid)
    (hreg : t.outReg = s.outReg) : t.delivered = s.delivered := by
  simp only [State.delivered, State.held, htaken, hvalid, hreg]

/-- What a class emits, it leaves held (30_encoding.md R80, R91). -/
theorem effectOf_delivered (i : Instr) {s : State} (hv : s.outValid = false) :
    ∃ evs, (effectOf i s).emitted = s.emitted ++ evs ∧ (effectOf i s).delivered = s.delivered ++ evs := by
  obtain ⟨_, _, htaken, _⟩ := effectOf_keeps_outside i s
  rcases effectOf_emits_at_most_one i s with ⟨hemitted, hvalid, hreg⟩ | ⟨ev, hemitted, hvalid, hreg⟩
  · exact ⟨[], by simp [hemitted], by rw [State.delivered_eq htaken hvalid hreg, List.append_nil]⟩
  · refine ⟨[ev], hemitted, ?_⟩
    rw [State.delivered, State.delivered, State.held_of_outValid hvalid, State.held_of_not_outValid hv, htaken, hreg,
      List.append_nil]

/-- What one edge does to the events emitted and delivered. -/
theorem step_delivered {s s' : State} (h : step s = .next s') :
    (∃ evs, s'.emitted = s.emitted ++ evs ∧ s'.delivered = s.delivered ++ evs) ∨
      (s.tokens = [.reset] ∧ s'.emitted = s.emitted ∧ s'.delivered = s.taken) := by
  rcases step_tokens_cases h with ⟨_, _, _, hemitted, hkept | htaken⟩ | ⟨ht, rest, rfl⟩ | ⟨e, rest, i, _, hv, _, _, rfl⟩
  · obtain ⟨hvalid, hreg, htaken⟩ := hkept
    exact .inl ⟨[], by simp [hemitted], by rw [State.delivered_eq htaken hvalid hreg, List.append_nil]⟩
  · obtain ⟨hv, hv', htaken⟩ := htaken
    refine .inl ⟨[], by simp [hemitted], ?_⟩
    rw [State.delivered, State.delivered, State.held_of_outValid hv, State.held_of_not_outValid hv', htaken]
  · exact .inr ⟨ht, rfl, List.append_nil _⟩
  · exact .inl (effectOf_delivered i (s := s.afterSample rest) hv)

/-- Settles O41: emitted and delivered grow by the same events; after a reset the events taken are left of those delivered. -/
theorem eventsAreNeitherDroppedNorDuplicated : Obligations.EventsAreNeitherDroppedNorDuplicated := by
  unfold Obligations.EventsAreNeitherDroppedNorDuplicated
  constructor
  · intro s s' hc h hreset
    rcases step_delivered h with ⟨evs, hemitted, hdelivered⟩ | ⟨ht, _⟩
    · exact hemitted.trans ((congrArg (· ++ evs) hc).trans hdelivered.symm)
    · simp [ht] at hreset
  · intro s s' hsub h
    change s'.delivered.Sublist s'.emitted
    rcases step_delivered h with ⟨evs, hemitted, hdelivered⟩ | ⟨_, hemitted, hdelivered⟩
    · rw [hemitted, hdelivered]
      exact hsub.append_right evs
    · rw [hemitted, hdelivered]
      exact (List.sublist_append_left s.taken s.held).trans hsub

end Sys2Proof.Machine
end

section
/-! SUPPORT. Stalls (30_encoding.md R91; 70_reset_and_hazards.md R231, R243): one edge at which the block is not ready, then a run of
them. -/

namespace Sys2Proof.Machine

/-- The predicate holds before each of the next `n` edges. -/
def State.Along (P : State → Prop) (n : Nat) (s : State) : Prop :=
  ∀ (k : Nat) (t : State), k < n → Sys2Proof.core.run k s = .next t → P t

theorem State.Along.head {P : State → Prop} {n : Nat} {s : State} (h : s.Along P (n + 1)) : P s :=
  h 0 s (Nat.succ_pos n) rfl

theorem State.Along.tail {P : State → Prop} {n : Nat} {s t : State} (h : s.Along P (n + 1)) (hs : step s = .next t) :
    t.Along P n :=
  fun k u hk hu => h (k + 1) u (Nat.succ_lt_succ hk) ((core_run_succ_of_next hs).trans hu)

theorem inReady_eq_true_iff (rst : Bool) (s : State) : s.inReady rst = true ↔ s.outValid = false ∧ rst = false := by
  simp [State.inReady]

/-- A block that is ready accepts the transfer offered (30_encoding.md R91). -/
theorem tokens_of_offer {s : State} {p : Pins} {rest : List Pins} (hin : s.inputs = p :: rest)
    (hready : s.inReady p.rst = true) (hi : p.inValid = true) : s.tokens = [.transfer p.transfer] := by
  obtain ⟨hv, hr⟩ := (inReady_eq_true_iff p.rst s).1 hready
  simp [State.tokens, hin, hr, edge_of_offer hin hr hv hi]

/-- A block that accepts a transfer is ready (30_encoding.md R91). -/
theorem inReady_of_transfer {s : State} {e : InEvent} (ht : Token.transfer e ∈ s.tokens) :
    ∃ p rest, s.inputs = p :: rest ∧ s.inReady p.rst = true := by
  unfold State.tokens at ht
  split at ht
  · cases ht
  · split_ifs at ht with hr
    · simp at ht
    · split at ht
      · rename_i e' t he
        obtain ⟨p, rest, hin, hr, hv, _⟩ := edge_eq_transfer he
        exact ⟨p, rest, hin, (inReady_eq_true_iff p.rst s).2 ⟨hv, hr⟩⟩
      · cases ht

theorem State.Stalls.not_transfer {s : State} (h : s.Stalls) (e : InEvent) : Token.transfer e ∉ s.tokens := by
  intro ht
  obtain ⟨p, rest, hin, hstall⟩ := h
  obtain ⟨q, rest', hin', hready⟩ := inReady_of_transfer ht
  cases hin.symm.trans hin'
  simp [hstall] at hready

/-- A stalled edge emits nothing, and holds the block unless it is a reset. -/
theorem State.Stalls.step {s t : State} (h : s.Stalls) (hs : step s = .next t) :
    t.emitted = s.emitted ∧ (Token.reset ∉ s.tokens → t.block = s.block) := by
  rcases step_tokens_cases hs with ⟨_, hblock, _, hemitted, _⟩ | ⟨ht, rest, rfl⟩ | ⟨e, _, _, ht, _⟩
  · exact ⟨hemitted, fun _ => hblock⟩
  · exact ⟨rfl, fun hreset => by simp [ht] at hreset⟩
  · exact absurd (by simp [ht]) (h.not_transfer e)

/-- A run of stalled edges accepts and emits nothing, and holds the block where none of them is a reset. -/
theorem core_run_stalled {n : Nat} {s s' : State} (h : s.Along State.Stalls n)
    (hrun : Sys2Proof.core.run n s = .next s') :
    (∀ e : InEvent, Token.transfer e ∉ runTokens n s) ∧ s'.emitted = s.emitted ∧
      (Token.reset ∉ runTokens n s → s'.block = s.block) := by
  induction n generalizing s with
  | zero => cases hrun; exact ⟨fun e => List.not_mem_nil, rfl, fun _ => rfl⟩
  | succ n ih =>
    obtain ⟨t, hs, hrun'⟩ := core_run_succ_eq_next hrun
    obtain ⟨hno, hemitted, hblock⟩ := ih (h.tail hs) hrun'
    obtain ⟨hemitted₁, hblock₁⟩ := h.head.step hs
    simp only [runTokens_succ_of_next hs, List.mem_append, not_or]
    exact ⟨fun e => ⟨h.head.not_transfer e, hno e⟩, hemitted.trans hemitted₁,
      fun ⟨hreset₁, hreset⟩ => (hblock hreset).trans (hblock₁ hreset₁)⟩

/-- Every edge uses up its sample (log entry 2). -/
theorem step_inputs {s t : State} {p : Pins} {rest : List Pins} (hin : s.inputs = p :: rest) (hs : step s = .next t) :
    t.inputs = rest := by
  rcases step_cases hs with hq | ⟨e, u, i, he, _, _, _, rfl⟩
  · rcases edge_eq_quiet hq with ⟨hin', _⟩ | ⟨q, rest', hin', hcase⟩
    · cases hin.symm.trans hin'
    · cases hin.symm.trans hin'
      rcases hcase with ⟨_, rfl⟩ | ⟨_, _, _, rfl⟩ | ⟨_, _, _, rfl⟩ | ⟨_, _, _, rfl⟩ <;> rfl
  · obtain ⟨q, rest', hin', _, _, _, _, rfl⟩ := edge_eq_transfer he
    cases hin.symm.trans hin'
    obtain ⟨_, hinputs, _⟩ := effectOf_keeps_outside i (s.afterSample rest)
    exact hinputs

theorem Pins.transfer_congr {p q : Pins} (ha : q.inAbort = p.inAbort) (hd : q.inData = p.inData) :
    q.transfer = p.transfer := by
  rw [Pins.transfer, Pins.transfer, ha, hd]

/-- Over one stalled edge a transport that keeps its duty keeps its offer (30_encoding.md R91). -/
theorem State.Offers.step {s t : State} {e : InEvent} (ho : s.Offers e) (hstall : s.Stalls) (hhold : s.TransportHolds)
    (hs : Machine.step s = .next t) : t.Offers e := by
  obtain ⟨p, rest, hin, hi, rfl⟩ := ho
  obtain ⟨p', rest', hin', hready⟩ := hstall
  cases hin.symm.trans hin'
  obtain ⟨q, rest'', rfl, hi', ha, hd⟩ := hhold p rest hin hi hready
  exact ⟨q, rest'', step_inputs hin hs, hi', Pins.transfer_congr ha hd⟩

/-- Over a run of stalled edges a transport that keeps its duty keeps its offer. -/
theorem core_run_offers {n : Nat} {s s' : State} {e : InEvent} (ho : s.Offers e)
    (h : s.Along (fun t => t.Stalls ∧ t.TransportHolds) n) (hrun : Sys2Proof.core.run n s = .next s') : s'.Offers e := by
  induction n generalizing s with
  | zero => cases hrun; exact ho
  | succ n ih =>
    obtain ⟨t, hs, hrun'⟩ := core_run_succ_eq_next hrun
    obtain ⟨hstall, hhold⟩ := h.head
    exact ih (ho.step hstall hhold hs) (h.tail hs) hrun'

/-- The edge at which a stall is over accepts the transfer offered. -/
theorem State.Offers.tokens {s : State} {e : InEvent} (ho : s.Offers e) (h : ¬ s.Stalls) : s.tokens = [.transfer e] := by
  obtain ⟨p, rest, hin, hi, rfl⟩ := ho
  refine tokens_of_offer hin ?_ hi
  by_contra hready
  exact h ⟨p, rest, hin, Bool.not_eq_true _ ▸ hready⟩

/-- Settles O42: by induction over the edges of the stall. -/
theorem stalledTransferStaysOffered : Obligations.StalledTransferStaysOffered := by
  unfold Obligations.StalledTransferStaysOffered
  refine ⟨fun n s s' h hrun => core_run_stalled h hrun, fun n s s' e ho h hrun => ?_⟩
  have hoffers := core_run_offers ho h hrun
  exact ⟨hoffers, hoffers.tokens⟩

end Sys2Proof.Machine
end

section
/-! SUPPORT. The transfers accepted while sync is awaited, and the abort (40_synchronizer.md R101 to R114): a class whose row
applies is what its encoding decodes to, and a block that holds no event completes it with the class's effect. -/

namespace Sys2Proof.Machine

/-- With no event held, a well-formed class is what its encoding decodes to and completes, wherever its row applies. -/
theorem decode_and_exec {s : State} {i : Instr} (hv : s.outValid = false) (hw : i.wf s.mark141 = true)
    (ha : i.appliesIn s.mark141 s.sync s.cnt = true) :
    decode s.mark141 s.sync s.cnt (encode i) = some i ∧ exec i s = .next (effectOf i s) :=
  ⟨decode_encode hw ha, (exec_eq_transact i s).trans (transact_of_applies _ hv ha)⟩

/-- Inside a payload a byte of any value, before the last, is a payload byte (41_payload_decoder.md R130). -/
theorem decode_payloadByte (m : Mark141) {cnt : BitVec 5} (hc : cnt.toNat < 16) (b : Byte) :
    decode m .payloadExpected cnt (.byte b) = some (.payloadByte b) :=
  decode_encode (i := .payloadByte b) rfl (appliesIn_payloadByte_iff.2 ⟨rfl, hc⟩)

theorem decode_payloadLast (m : Mark141) (b : Byte) :
    decode m .payloadExpected 16 (.byte b) = some (.payloadLast b) :=
  decode_encode (i := .payloadLast b) rfl (appliesIn_payloadLast_iff.2 ⟨rfl, rfl⟩)

/-- While sync is awaited, a byte that meets the operand line of UNKNOWN is UNKNOWN (40_synchronizer.md R108). -/
theorem decode_unknown {m : Mark141} {b : Byte} (hw : (Instr.unknown b).wf m = true) (cnt : BitVec 5) :
    decode m .awaitingSync cnt (.byte b) = some (.unknown b) :=
  decode_encode (i := .unknown b) hw rfl

/-! Frame markers. -/

/-- The marker of a frame row decodes to the row's class, which latches the row's source and range code and completes
(40_synchronizer.md R101, R102). -/
theorem frameMarker_latches {s : State} (hv : s.outValid = false) (hs : s.sync = .awaitingSync) {kind : Source}
    {rc : BitVec 3} {i : Instr} (hf : frameInstr kind rc = some i) :
    decode s.mark141 s.sync s.cnt (.byte (frameMarker kind rc)) = some i ∧ exec i s = .next (s.latchFrame kind rc) := by
  obtain ⟨hw, henc⟩ := frameInstr_wf_encode hf s.mark141
  rw [← henc, ← effectOf_frameInstr hf]
  exact decode_and_exec hv hw (hs ▸ frameInstr_appliesIn hf s.mark141 s.cnt)

/-- So does every entry of a list of frame rows of one source, each with its marker, its class and its range code. -/
theorem frameRows_latch {kind : Source} {rows : List (Byte × Instr × BitVec 3)}
    (hrows : ∀ x ∈ rows, frameMarker kind x.2.2 = x.1 ∧ frameInstr kind x.2.2 = some x.2.1) {s : State}
    (hv : s.outValid = false) (hs : s.sync = .awaitingSync) :
    ∀ x ∈ rows, decode s.mark141 s.sync s.cnt (.byte x.1) = some x.2.1 ∧
      exec x.2.1 s = .next (s.latchFrame kind x.2.2) := by
  intro x hx
  obtain ⟨hmarker, hrow⟩ := hrows x hx
  rw [← hmarker]
  exact frameMarker_latches hv hs hrow

/-- Settles O14: the entries of the list are PreRecorded frame rows; 0x87 meets UNKNOWN's operand line. -/
theorem framePreLatchesSourceAndRange : Obligations.FramePreLatchesSourceAndRange := by
  unfold Obligations.FramePreLatchesSourceAndRange
  exact ⟨fun s hv hs => frameRows_latch (kind := .preRecorded) (by decide) hv hs,
    fun m cnt => decode_unknown rfl cnt⟩

/-- Settles O15: the entries of the list are Live frame rows; 0x9F and 0xA7 meet UNKNOWN's operand line. -/
theorem frameLiveLatchesSourceAndRange : Obligations.FrameLiveLatchesSourceAndRange := by
  unfold Obligations.FrameLiveLatchesSourceAndRange
  exact ⟨fun s hv hs => frameRows_latch (kind := .live) (by decide) hv hs,
    fun m cnt => ⟨decode_unknown rfl cnt, decode_unknown rfl cnt⟩⟩

/-! Bytes that start no frame. -/

/-- Tokens that each leave the block as it is and report nothing do so as a run of any length. -/
theorem Block.run_eq_self {m : Mark141} {st : Block} {ts : List Token} (h : ∀ t ∈ ts, st.token m t = (st, none)) :
    st.run m ts = (st, []) := by
  induction ts with
  | nil => rfl
  | cons t ts ih =>
    obtain ⟨ht, hts⟩ := List.forall_mem_cons.1 h
    simp only [Block.run, ht, ih hts, Option.toList_none, List.nil_append]

/-- At transaction level a byte with bit 7 clear is discarded while sync is awaited (40_synchronizer.md R103). -/
theorem Block.step_needmore {st : Block} (hs : st.sync = .awaitingSync) (m : Mark141) {b : Byte} (hb : b.toNat ≤ 0x7F) :
    st.step m (.byte b) = (st, none) := by
  rw [Block.step_marker hs, (classify_eq_needMore_iff m b).2 hb]
  rfl

/-- Settles O16: one byte by its class, a run of them by induction over its length. -/
theorem needmoreDiscardsTheByte : Obligations.NeedmoreDiscardsTheByte := by
  unfold Obligations.NeedmoreDiscardsTheByte
  constructor
  · intro s b hv hs hb
    have hw := (needmore_wf_iff s.mark141 b).2 ((bit7_eq_false_iff b).2 hb)
    exact decode_and_exec (i := .needmore b) hv hw (beq_iff_eq.2 hs)
  · intro m st bs hs hbs
    refine Block.run_eq_self (List.forall_mem_map.2 fun b hb => ?_)
    exact Block.step_needmore hs m (hbs b hb)

/-- Settles O17: END's own encoding, and a payload byte of any value. -/
theorem endMarkerIsReported : Obligations.EndMarkerIsReported := by
  unfold Obligations.EndMarkerIsReported
  exact ⟨fun s hv hs => decode_and_exec (i := .endMarker) hv rfl (beq_iff_eq.2 hs),
    fun m cnt hc => decode_payloadByte m hc 0x90, fun m => decode_payloadLast m 0x90⟩

/-- While sync is awaited, UNKNOWN completes and reports its byte (40_synchronizer.md R108). -/
theorem unknown_emits {s : State} {b : Byte} (hv : s.outValid = false) (hs : s.sync = .awaitingSync)
    (hw : (Instr.unknown b).wf s.mark141 = true) :
    decode s.mark141 s.sync s.cnt (.byte b) = some (.unknown b) ∧
      exec (.unknown b) s = .next (s.emit (.unknownMarker b)) :=
  decode_and_exec (i := .unknown b) hv hw (beq_iff_eq.2 hs)

/-- Settles O18: byte 0x8D is END_UNCONF's encoding under one value of the parameter, and meets UNKNOWN's operand line under
the other. -/
theorem endUnconfIsReportedApart : Obligations.EndUnconfIsReportedApart := by
  unfold Obligations.EndUnconfIsReportedApart
  constructor
  · intro s hv hs hm
    exact decode_and_exec (i := .endUnconf) hv (beq_iff_eq.2 hm) (appliesIn_endUnconf_iff.2 ⟨hs, hm⟩)
  · intro s hv hs hm
    exact unknown_emits hv hs ((unknown_wf_iff s.mark141 0x8D).2 (by simp [hm]))

/-- Settles O19: the byte meets UNKNOWN's operand line. -/
theorem unknownMarkerIsReported : Obligations.UnknownMarkerIsReported := by
  unfold Obligations.UnknownMarkerIsReported
  intro s b hv hs hbit hpre hlive hend hunconf
  have hlow : 0x87 ≤ b.toNat := by omega
  exact unknown_emits hv hs ((unknown_wf_iff s.mark141 b).2 ⟨hlow, hlive, hend, hunconf⟩)

/-! The abort. -/

/-- With no event held an abort completes in every sequencer state (40_synchronizer.md R112). -/
theorem exec_abort {s : State} (hv : s.outValid = false) : exec .abort s = .next (s.resync.emit s.abortEvent) :=
  (decode_and_exec (i := .abort) hv rfl rfl).2

theorem abortEvent_of_awaitingSync {s : State} (hs : s.sync = .awaitingSync) : s.abortEvent = .transport .sync 0 := by
  simp only [State.abortEvent, hs]

theorem abortEvent_of_payloadExpected {s : State} (hs : s.sync = .payloadExpected) :
    s.abortEvent = .transport .payload s.cnt := by
  simp only [State.abortEvent, hs]

/-- Settles O22: the abort's one effect, with the event of the phase it came in. -/
theorem abortReportsAndResyncs : Obligations.AbortReportsAndResyncs := by
  unfold Obligations.AbortReportsAndResyncs
  refine ⟨fun s hv hs => ?sync, fun s hv hs => ?payload, fun _ _ _ => rfl⟩
  case sync => rw [exec_abort hv, abortEvent_of_awaitingSync hs]; rfl
  case payload => rw [exec_abort hv, abortEvent_of_payloadExpected hs]; rfl

/-! Any byte accepted while sync is awaited. -/

/-- A step that accepts a transfer emits what the transaction-level step reports. -/
theorem step_emitted_of_transfer {s s' : State} {e : InEvent} (h : step s = .next s') (ht : s.tokens = [.transfer e]) :
    s'.emitted = s.emitted ++ (s.block.step s.mark141 e).2.toList := by
  obtain ⟨_, hemitted⟩ := step_agrees (Block.Agrees.refl s.block) h
  rwa [ht, Block.run_singleton] at hemitted

/-- Settles O49: the transaction-level step of a classified byte, and at most one event for each class. -/
theorem awaitingSyncByteEffects : Obligations.AwaitingSyncByteEffects := by
  unfold Obligations.AwaitingSyncByteEffects
  intro s s' b hs ht h
  have hstep : s.block.step s.mark141 (.byte b) = s.block.marker (classify s.mark141 b) := Block.step_marker hs _ b
  have hblock := step_block_of_transfer h ht
  have hemitted := step_emitted_of_transfer h ht
  rw [hstep] at hblock hemitted
  refine ⟨fun hf => hblock.trans (Block.marker_eq_self hf), ?one, fun kind rc hf => ?frame⟩
  case one =>
    cases hev : (s.block.marker (classify s.mark141 b)).2 with
    | none => left; simpa [hev] using hemitted
    | some ev => right; exact ⟨ev, by simpa [hev] using hemitted⟩
  case frame => simpa [hf, Block.marker] using hemitted

end Sys2Proof.Machine
end

section
/-! SUPPORT. The pure functions of the payload decoder (41_payload_decoder.md R132 to R140): the flags bit by bit, bit 7 of byte 0
apart from them, and which payload bytes each function reads. -/

namespace Sys2Proof.Machine

/-! Payload byte 0. -/

/-- Bit 3 is the effective weighting, every other bit of the field is the byte's own (41_payload_decoder.md R132). -/
theorem flags_getLsbD (p0 : Byte) (src : Source) (i : Nat) :
    (flags p0 src).getLsbD i = if i = 3 then weightingA p0 src else decide (i < 7) && p0.getLsbD i := by
  by_cases hi : i < 7
  · simp only [flags, BitVec.getLsbD_append, BitVec.getLsbD_ofBool]
    interval_cases i <;> simp
  · have hne : i ≠ 3 := by omega
    simp [BitVec.getLsbD_of_ge _ i (not_lt.1 hi), hi, hne]

theorem weightingA_live (p0 : Byte) : weightingA p0 .live = p0.getLsbD 3 := Bool.xor_false _

theorem weightingA_preRecorded (p0 : Byte) : weightingA p0 .preRecorded = !p0.getLsbD 3 := Bool.xor_true _

/-- Settles O23: each flag is `flags_getLsbD` at its index, and the worked values are computed. -/
theorem flagsExtractorBits : Obligations.FlagsExtractorBits := by
  unfold Obligations.FlagsExtractorBits
  refine ⟨fun p0 src => ⟨flags_getLsbD p0 src 6, flags_getLsbD p0 src 5, flags_getLsbD p0 src 4, ?weighting,
    flags_getLsbD p0 src 2, flags_getLsbD p0 src 1, flags_getLsbD p0 src 0⟩, by decide⟩
  case weighting =>
    rw [frequencyWeightingA, flags_getLsbD, if_pos rfl]
    cases src <;> rfl

/-- Settles O24: only bit 3 of `flags_getLsbD` reads the source. -/
theorem weightingInvertedOnlyForPreRecorded : Obligations.WeightingInvertedOnlyForPreRecorded := by
  unfold Obligations.WeightingInvertedOnlyForPreRecorded
  intro p0
  refine ⟨?live, ?preRecorded, fun i hi => ?others⟩
  case live => rw [frequencyWeightingA, flags_getLsbD, if_pos rfl, weightingA_live]
  case preRecorded => rw [frequencyWeightingA, flags_getLsbD, if_pos rfl, weightingA_preRecorded]
  case others => rw [flags_getLsbD, flags_getLsbD, if_neg hi, if_neg hi]

theorem unknownBits_eq_ite (p0 : Byte) : unknownBits p0 = if p0.getLsbD 7 then 0x80#8 else 0x00#8 :=
  BitVec.and_twoPow p0 7

/-- Flipping bit 7 flips it in the capture (41_payload_decoder.md R134). -/
theorem unknownBits_flip (p0 : Byte) : unknownBits (p0 ^^^ 0x80#8) = unknownBits p0 ^^^ 0x80#8 := by
  rw [unknownBits_eq_ite, unknownBits_eq_ite, BitVec.getLsbD_xor]
  cases p0.getLsbD 7 <;> rfl

/-- Bits 0 to 6 are not bit 7. -/
theorem getLsbD_flip {i : Nat} (hi : i < 7) (p0 : Byte) : (p0 ^^^ 0x80#8).getLsbD i = p0.getLsbD i := by
  have hmask : (0x80#8).getLsbD i = false := by interval_cases i <;> rfl
  rw [BitVec.getLsbD_xor, hmask, Bool.xor_false]

/-- Bit 7 of byte 0 does not enter the flags (41_payload_decoder.md R132). -/
theorem flags_flip (p0 : Byte) (src : Source) : flags (p0 ^^^ 0x80#8) src = flags p0 src := by
  refine BitVec.eq_of_getLsbD_eq fun i hi => ?_
  rw [flags_getLsbD, flags_getLsbD, weightingA, weightingA, getLsbD_flip (by decide), getLsbD_flip hi]

/-! The digits. -/

/-- Settles O27. -/
theorem bcdPairValue : Obligations.BcdPairValue := by
  unfold Obligations.BcdPairValue
  exact ⟨fun _ _ hhi hlo => ⟨rfl, bcd2_le hhi hlo⟩, by decide⟩

/-- The digit check reads bytes 1 to 16 alone (41_payload_decoder.md R136). -/
theorem digitsOk_congr {p q : Payload} (h : ∀ i : Fin 17, 1 ≤ i.val → p[i] = q[i]) : digitsOk p = digitsOk q := by
  rw [Bool.eq_iff_iff, digitsOk_iff, digitsOk_iff]
  exact forall₂_congr fun i hi => by rw [h i hi]

theorem digitsOk_eq_false_iff (p : Payload) : digitsOk p = false ↔ ∃ i : Fin 17, 1 ≤ i.val ∧ 9 < p[i].toNat := by
  rw [← Bool.not_eq_true, digitsOk_iff]
  push Not
  rfl

/-- The timestamp reads bytes 5 to 16 alone (42_timestamp.md R177). -/
theorem timestamp_congr {p q : Payload} (h : ∀ i : Fin 17, 5 ≤ i.val → p[i] = q[i]) : timestamp p = timestamp q := by
  have hyear : rawYear p = rawYear q := congrArg₂ bcd2 (h 5 (by decide)) (h 6 (by decide))
  have hmonth : rawMonth p = rawMonth q := congrArg₂ bcd2 (h 7 (by decide)) (h 8 (by decide))
  have hday : rawDay p = rawDay q := congrArg₂ bcd2 (h 9 (by decide)) (h 10 (by decide))
  have hhour : rawHour p = rawHour q := congrArg₂ bcd2 (h 11 (by decide)) (h 12 (by decide))
  have hminute : rawMinute p = rawMinute q := congrArg₂ bcd2 (h 13 (by decide)) (h 14 (by decide))
  have hsecond : rawSecond p = rawSecond q := congrArg₂ bcd2 (h 15 (by decide)) (h 16 (by decide))
  rw [timestamp, timestamp, correctedDay, correctedDay, hyear, hmonth, hday, hhour, hminute, hsecond]

/-! Byte 0 spells no digit, so it can be set to anything. -/

theorem set_zero_get (p : Payload) (b : Byte) (i : Fin 17) (hi : 1 ≤ i.val) : (p.set 0 b)[i] = p[i] :=
  Vector.getElem_set_ne (xs := p) (x := b) (by decide) i.isLt (by omega)

theorem digitsOk_set_zero (p : Payload) (b : Byte) : digitsOk (p.set 0 b) = digitsOk p :=
  digitsOk_congr (set_zero_get p b)

theorem timestamp_set_zero (p : Payload) (b : Byte) : timestamp (p.set 0 b) = timestamp p :=
  timestamp_congr fun i hi => set_zero_get p b i (by omega)

theorem decibel_set_zero (p : Payload) (b : Byte) : decibel (p.set 0 b) = decibel p := by
  simp [decibel]

/-! The range table. -/

/-- Settles O29: the entries are read off the table, and the formula is checked for each code. -/
theorem rangeTableEntries : Obligations.RangeTableEntries := by
  unfold Obligations.RangeTableEntries
  exact ⟨rfl, rfl, rfl, rfl, rfl, rfl, rfl, rfl, by decide⟩

end Sys2Proof.Machine
end

section
/-! SUPPORT. The outcome of a decode (41_payload_decoder.md R141, R150, R151): which of the three checks fails first, or the
record of a payload that passes them all. -/

namespace Sys2Proof.Machine

/-- The record of a payload that passes the checks, with the timestamp and the bounds they gave (41_payload_decoder.md R150). -/
def recordOf (p : Payload) (src : Source) (t : Timestamp) (lo hi : BitVec 8) : MeasurementRecord :=
  { source := src, yy := t.yy, month := t.month, day := t.day, hour := t.hour, minute := t.minute,
    second := t.second, dbTenths := BitVec.ofNat 14 (decibel p), flags := flags p[0] src,
    unknownBits := unknownBits p[0], rangeLow := lo, rangeHigh := hi }

/-! One equation for each outcome. -/

section
variable {p : Payload}

theorem decodePayload_of_bad_digit (hd : digitsOk p = false) (src : Source) (rc : BitVec 3) :
    decodePayload p src rc = .err .invalidDigit := by
  simp [decodePayload, hd]

theorem decodePayload_of_no_timestamp (hd : digitsOk p = true) (ht : timestamp p = none) (src : Source) (rc : BitVec 3) :
    decodePayload p src rc = .err .invalidTimestamp := by
  simp [decodePayload, hd, ht]

theorem decodePayload_of_no_range {t : Timestamp} {rc : BitVec 3} (hd : digitsOk p = true) (ht : timestamp p = some t)
    (hrange : rangeLut rc = none) (src : Source) : decodePayload p src rc = .err .invalidRange := by
  simp [decodePayload, hd, ht, hrange]

theorem decodePayload_of_good {t : Timestamp} {rc : BitVec 3} {lo hi : BitVec 8} (hd : digitsOk p = true)
    (ht : timestamp p = some t) (hrange : rangeLut rc = some (lo, hi)) (src : Source) :
    decodePayload p src rc = .ok (recordOf p src t lo hi) := by
  simp [decodePayload, recordOf, hd, ht, hrange]

end

/-- Every payload meets exactly one of the four. -/
theorem decodePayload_cases (p : Payload) (src : Source) (rc : BitVec 3) :
    (digitsOk p = false ∧ decodePayload p src rc = .err .invalidDigit) ∨
    (digitsOk p = true ∧ timestamp p = none ∧ decodePayload p src rc = .err .invalidTimestamp) ∨
    (∃ t, digitsOk p = true ∧ timestamp p = some t ∧ rangeLut rc = none ∧ decodePayload p src rc = .err .invalidRange) ∨
    ∃ t lo hi, digitsOk p = true ∧ timestamp p = some t ∧ rangeLut rc = some (lo, hi) ∧
      decodePayload p src rc = .ok (recordOf p src t lo hi) := by
  cases hd : digitsOk p with
  | false => exact .inl ⟨rfl, decodePayload_of_bad_digit hd src rc⟩
  | true =>
    cases ht : timestamp p with
    | none => exact .inr (.inl ⟨rfl, rfl, decodePayload_of_no_timestamp hd ht src rc⟩)
    | some t =>
      cases hrange : rangeLut rc with
      | none => exact .inr (.inr (.inl ⟨t, rfl, rfl, rfl, decodePayload_of_no_range hd ht hrange src⟩))
      | some bounds =>
        obtain ⟨lo, hi⟩ := bounds
        exact .inr (.inr (.inr ⟨t, lo, hi, rfl, rfl, rfl, decodePayload_of_good hd ht hrange src⟩))

/-! So each outcome says which checks passed. -/

theorem decodePayload_eq_invalidDigit_iff (p : Payload) (src : Source) (rc : BitVec 3) :
    decodePayload p src rc = .err .invalidDigit ↔ digitsOk p = false := by
  rcases decodePayload_cases p src rc with ⟨hd, h⟩ | ⟨hd, _, h⟩ | ⟨_, hd, _, _, h⟩ | ⟨_, _, _, hd, _, _, h⟩ <;>
    simp [h, hd]

theorem decodePayload_eq_invalidTimestamp_iff (p : Payload) (src : Source) (rc : BitVec 3) :
    decodePayload p src rc = .err .invalidTimestamp ↔ digitsOk p = true ∧ timestamp p = none := by
  rcases decodePayload_cases p src rc with ⟨hd, h⟩ | ⟨hd, ht, h⟩ | ⟨_, hd, ht, _, h⟩ | ⟨_, _, _, hd, ht, _, h⟩ <;>
    simp [*]

theorem decodePayload_eq_invalidRange_iff (p : Payload) (src : Source) (rc : BitVec 3) :
    decodePayload p src rc = .err .invalidRange ↔
      digitsOk p = true ∧ (timestamp p).isSome = true ∧ rangeLut rc = none := by
  rcases decodePayload_cases p src rc with ⟨hd, h⟩ | ⟨hd, ht, h⟩ | ⟨_, hd, ht, hr, h⟩ | ⟨_, _, _, hd, ht, hr, h⟩ <;>
    simp [*]

theorem decodePayload_eq_ok_iff (p : Payload) (src : Source) (rc : BitVec 3) (r : MeasurementRecord) :
    decodePayload p src rc = .ok r ↔
      ∃ t lo hi, digitsOk p = true ∧ timestamp p = some t ∧ rangeLut rc = some (lo, hi) ∧ r = recordOf p src t lo hi := by
  constructor
  · exact decodePayload_eq_ok
  · rintro ⟨t, lo, hi, hd, ht, hrange, rfl⟩
    exact decodePayload_of_good hd ht hrange src

/-- A code has an entry exactly when it is one of 0 to 6 (41_payload_decoder.md R140). -/
theorem rangeLut_isSome_iff (rc : BitVec 3) : (rangeLut rc).isSome = true ↔ rc.toNat ≤ 6 := by
  rw [← not_lt, ← rangeLut_eq_none_iff, Option.isSome_iff_ne_none]

/-- Settles O31: one equivalence for each outcome. -/
theorem decodeChecksInOrder : Obligations.DecodeChecksInOrder := by
  unfold Obligations.DecodeChecksInOrder
  intro p src rc
  refine ⟨decodePayload_eq_invalidDigit_iff p src rc, decodePayload_eq_invalidTimestamp_iff p src rc, ?range, fun r => ?ok⟩
  case range => rw [decodePayload_eq_invalidRange_iff, rangeLut_eq_none_iff]
  case ok =>
    rw [decodePayload_eq_ok_iff]
    constructor
    · rintro ⟨t, lo, hi, hd, ht, hrange, hr⟩
      exact ⟨t, lo, hi, hd, ht, (rangeLut_isSome_iff rc).1 (Option.isSome_of_eq_some hrange), hrange, hr⟩
    · rintro ⟨t, lo, hi, hd, ht, _, hrange, hr⟩
      exact ⟨t, lo, hi, hd, ht, hrange, hr⟩

/-- Settles O26: the digit check comes first and bounds bytes 1 to 16. -/
theorem invalidDigitIffSomeDigitAboveNine : Obligations.InvalidDigitIffSomeDigitAboveNine := by
  unfold Obligations.InvalidDigitIffSomeDigitAboveNine
  intro p src rc
  exact ⟨digitsOk_iff p, (decodePayload_eq_invalidDigit_iff p src rc).trans (digitsOk_eq_false_iff p), digitsOk_set_zero p⟩

/-- Payloads alike to the two checks fail alike (41_payload_decoder.md R150). -/
theorem decodePayload_err_congr {p q : Payload} (hd : digitsOk p = digitsOk q) (ht : timestamp p = timestamp q)
    (src : Source) (rc : BitVec 3) (code : DecodeErr) :
    decodePayload p src rc = .err code ↔ decodePayload q src rc = .err code := by
  cases code with
  | invalidDigit => rw [decodePayload_eq_invalidDigit_iff, decodePayload_eq_invalidDigit_iff, hd]
  | invalidTimestamp => rw [decodePayload_eq_invalidTimestamp_iff, decodePayload_eq_invalidTimestamp_iff, hd, ht]
  | invalidRange => rw [decodePayload_eq_invalidRange_iff, decodePayload_eq_invalidRange_iff, hd, ht]

/-- Flipping bit 7 of byte 0 flips it in the record and leaves every other field (41_payload_decoder.md R134). -/
theorem recordOf_flip (p : Payload) (src : Source) (t : Timestamp) (lo hi : BitVec 8) :
    recordOf (p.set 0 (p[0] ^^^ 0x80#8)) src t lo hi =
      { recordOf p src t lo hi with unknownBits := unknownBits p[0] ^^^ 0x80#8 } := by
  simp only [recordOf, decibel_set_zero, Vector.getElem_set_self, flags_flip, unknownBits_flip]

/-- Settles O25: no check reads byte 0, so the flipped payload has the same outcome, with the record of `recordOf_flip`. -/
theorem unknownBitIsCapturedAndChangesNothingElse : Obligations.UnknownBitIsCapturedAndChangesNothingElse := by
  unfold Obligations.UnknownBitIsCapturedAndChangesNothingElse
  refine ⟨unknownBits_eq_ite, fun p src rc => ⟨fun r hr => ?ok, fun code herr => ?err⟩⟩
  case ok =>
    obtain ⟨t, lo, hi, hd, ht, hrange, rfl⟩ := (decodePayload_eq_ok_iff p src rc r).1 hr
    refine ⟨rfl, ?_⟩
    rw [decodePayload_of_good ((digitsOk_set_zero p _).trans hd) ((timestamp_set_zero p _).trans ht) hrange, recordOf_flip]
    rfl
  case err =>
    exact (decodePayload_err_congr (digitsOk_set_zero p _) (timestamp_set_zero p _) src rc code).2 herr

/-- With four digits, narrowing the decibel value to 14 bits loses nothing (41_payload_decoder.md R137). -/
theorem recordOf_dbTenths {p : Payload} (hd : digitsOk p = true) (src : Source) (t : Timestamp) (lo hi : BitVec 8) :
    (recordOf p src t lo hi).dbTenths.toNat = decibel p :=
  Nat.mod_eq_of_lt ((decibel_le hd).trans_lt (by decide))

/-- Settles O28: the value is computed from the digits, and only its bounds from the range code. -/
theorem decibelIsTheFourDigits : Obligations.DecibelIsTheFourDigits := by
  unfold Obligations.DecibelIsTheFourDigits
  refine ⟨fun p src rc r hr => ?value, fun p src rc rc' r hr hrc' => ?anyRange⟩
  case value =>
    obtain ⟨t, lo, hi, hd, _, _, rfl⟩ := (decodePayload_eq_ok_iff p src rc r).1 hr
    rw [recordOf_dbTenths hd]
    exact ⟨rfl, decibel_le hd⟩
  case anyRange =>
    obtain ⟨t, lo, hi, hd, ht, _, rfl⟩ := (decodePayload_eq_ok_iff p src rc r).1 hr
    obtain ⟨⟨lo', hi'⟩, hrange⟩ := Option.isSome_iff_exists.1 ((rangeLut_isSome_iff rc').2 hrc')
    exact ⟨recordOf p src t lo' hi', decodePayload_of_good hd ht hrange src, rfl⟩

/-- Settles O30: code 7 has no entry; and the invariant, which a step keeps, allows no such event. -/
theorem invalidRangeIsRejectedAndUnreachable : Obligations.InvalidRangeIsRejectedAndUnreachable := by
  unfold Obligations.InvalidRangeIsRejectedAndUnreachable
  refine ⟨fun p src hd ht => ?rejected, fun s s' hinv h src hmem => ?unreachable⟩
  case rejected => exact (decodePayload_eq_invalidRange_iff p src 7).2 ⟨hd, ht, rfl⟩
  case unreachable =>
    obtain ⟨_, _, hemitted⟩ := s'.inv_iff.1 (everyStepKeepsTheInvariant s s' hinv h)
    have hallowed : eventAllowed s'.mark141 (.decodeError src .invalidRange) = true := hemitted _ hmem
    exact Bool.false_ne_true hallowed

/-- What `recordInRange` checks, field by field (30_encoding.md R81). -/
theorem recordInRange_iff (r : MeasurementRecord) :
    recordInRange r = true ↔
      r.yy.toNat ≤ 99 ∧ (1 ≤ r.month.toNat ∧ r.month.toNat ≤ 12) ∧ (1 ≤ r.day.toNat ∧ r.day.toNat ≤ 31) ∧
      r.hour.toNat ≤ 23 ∧ r.minute.toNat ≤ 59 ∧ r.second.toNat ≤ 59 ∧ r.dbTenths.toNat ≤ 9999 ∧
      (r.unknownBits = 0x00 ∨ r.unknownBits = 0x80) ∧ (r.rangeLow, r.rangeHigh) ∈ rangeTable := by
  simp only [recordInRange, Bool.and_eq_true, Bool.or_eq_true, decide_eq_true_eq, beq_iff_eq, List.contains_iff_mem,
    and_assoc]
  rfl

/-- The day of a valid timestamp exists in its month of its year (42_timestamp.md R175). -/
theorem timestamp_day_le {p : Payload} {t : Timestamp} (hd : digitsOk p = true) (ht : timestamp p = some t) :
    t.day.toNat ≤ daysInMonth (2000 + t.yy.toNat) t.month.toNat := by
  obtain ⟨hvalid, hyy, hmonth, hday, _⟩ := timestamp_fields hd ht
  obtain ⟨_, ⟨_, hlast⟩, _⟩ := (validDateTime_iff _ _ _ _ _ _).1 hvalid
  rw [hyy, hmonth]
  rw [← hday] at hlast
  exact Int.ofNat_le.1 hlast

/-- Settles O32: every record is in range, and its day and bounds come from the timestamp and the table. -/
theorem everyRecordFieldIsInRange : Obligations.EveryRecordFieldIsInRange := by
  unfold Obligations.EveryRecordFieldIsInRange
  intro p src rc r hr
  obtain ⟨hyy, hmonth, hday, hhour, hminute, hsecond, hdb, hunknown, _⟩ :=
    (recordInRange_iff r).1 (decodePayload_recordInRange hr)
  obtain ⟨t, lo, hi, hd, ht, hrange, rfl⟩ := (decodePayload_eq_ok_iff p src rc r).1 hr
  exact ⟨rfl, hyy, hmonth, hday, hhour, hminute, hsecond, hdb, hunknown, hrange, timestamp_day_le hd ht⟩

end Sys2Proof.Machine
end

section
/-! SUPPORT. The payload transfers (41_payload_decoder.md R130, R131): in `PayloadExpected` a byte of any value is its count's
payload byte, and completes with its class's effect. -/

namespace Sys2Proof.Machine

/-- Settles O20: the one buffer write at the count, by `writeBuf_get`, and the count below 16 does not wrap. -/
theorem payloadByteIsCapturedAtCount : Obligations.PayloadByteIsCapturedAtCount := by
  unfold Obligations.PayloadByteIsCapturedAtCount
  intro s b hv hs hc
  have hlt : s.cnt.toNat < 16 := Nat.lt_succ_of_le hc
  obtain ⟨hdec, hexec⟩ := decode_and_exec (i := .payloadByte b) hv rfl (appliesIn_payloadByte_iff.2 ⟨hs, hlt⟩)
  exact ⟨hdec, (s.writeBuf b).countByte, hexec, cnt_succ_toNat hlt, fun i => writeBuf_get b s i i.isLt, rfl⟩

theorem decodeEvent_of_ok {p : Payload} {src : Source} {rc : BitVec 3} {r : MeasurementRecord}
    (h : decodePayload p src rc = .ok r) : decodeEvent p src rc = .record r := by
  simp [decodeEvent, h]

theorem decodeEvent_of_err {p : Payload} {src : Source} {rc : BitVec 3} {code : DecodeErr}
    (h : decodePayload p src rc = .err code) : decodeEvent p src rc = .decodeError src code := by
  simp [decodeEvent, h]

/-- Settles O21: the write at count 16, and the event of the decode of the written buffer, whichever it is. -/
theorem payloadLastDecodesTheFrame : Obligations.PayloadLastDecodesTheFrame := by
  unfold Obligations.PayloadLastDecodesTheFrame
  intro s b hv hs hc
  obtain ⟨hdec, hexec⟩ := decode_and_exec (i := .payloadLast b) hv rfl (appliesIn_payloadLast_iff.2 ⟨hs, hc⟩)
  refine ⟨hdec, _, decodeEvent (s.framePayload b) s.src s.rc, hexec, fun i => ?_, fun _ => decodeEvent_of_ok,
    fun _ => decodeEvent_of_err, rfl⟩
  rw [← hc]
  exact writeBuf_get b s i i.isLt

end Sys2Proof.Machine
end


section
/-! SUPPORT. The timestamp assembler (42_timestamp.md R170 to R178): the calendar, the one condition on which a payload has a
timestamp, and the timestamp it then has. -/

namespace Sys2Proof.Machine

/-! The calendar (42_timestamp.md R174, R175). -/

theorem leap_iff (y : Nat) : leap y = true ↔ y % 4 = 0 ∧ y % 100 ≠ 0 ∨ y % 400 = 0 := by
  simp [leap]

/-- Of 2000..2099 only 2000 is a multiple of 100, and it is one of 400. -/
theorem leap_iff_of_century {y : Nat} (hlo : 2000 ≤ y) (hhi : y ≤ 2099) : leap y = true ↔ y % 4 = 0 := by
  rw [leap_iff]
  omega

theorem daysInMonth_of_long (y : Nat) {m : Nat} (hm : m ∈ [1, 3, 5, 7, 8, 10, 12]) : daysInMonth y m = 31 :=
  if_pos (by simpa using hm)

theorem daysInMonth_of_short (y : Nat) {m : Nat} (hm : m ∈ [4, 6, 9, 11]) : daysInMonth y m = 30 := by
  have hm' : m = 4 ∨ m = 6 ∨ m = 9 ∨ m = 11 := by simpa using hm
  rw [daysInMonth, if_neg (by omega), if_pos hm']

theorem daysInMonth_february (y : Nat) : daysInMonth y 2 = if leap y then 29 else 28 := rfl

/-- Settles O34. -/
theorem daysInMonthAndLeapYears : Obligations.DaysInMonthAndLeapYears := by
  unfold Obligations.DaysInMonthAndLeapYears
  intro y hlo hhi
  exact ⟨leap_iff y, leap_iff_of_century hlo hhi, fun _ => daysInMonth_of_long y, fun _ => daysInMonth_of_short y,
    daysInMonth_february y⟩

/-- Settles O35. -/
theorem validDateTimeConditions : Obligations.ValidDateTimeConditions := by
  unfold Obligations.ValidDateTimeConditions
  exact validDateTime_iff

/-! The timestamp of a payload (42_timestamp.md R176). -/

/-- The fields of a payload, the day corrected, each narrowed to its width: the timestamp, where they are valid. -/
def stampOf (p : Payload) : Timestamp :=
  { yy := BitVec.ofNat 7 (rawYear p), month := BitVec.ofNat 4 (rawMonth p), day := BitVec.ofInt 5 (correctedDay p),
    hour := BitVec.ofNat 5 (rawHour p), minute := BitVec.ofNat 6 (rawMinute p), second := BitVec.ofNat 6 (rawSecond p) }

/-- The check of R175 on the fields of a payload, the day corrected. -/
def fieldsValid (p : Payload) : Bool :=
  validDateTime (Config.yearBase + rawYear p) (rawMonth p) (correctedDay p) (rawHour p) (rawMinute p) (rawSecond p)

theorem timestamp_eq_ite (p : Payload) : timestamp p = if fieldsValid p then some (stampOf p) else none := rfl

theorem fieldsValid_iff (p : Payload) :
    fieldsValid p = true ↔
      (1 ≤ rawMonth p ∧ rawMonth p ≤ 12) ∧
      (1 ≤ correctedDay p ∧ correctedDay p ≤ daysInMonth (Config.yearBase + rawYear p) (rawMonth p)) ∧
      rawHour p ≤ 23 ∧ rawMinute p ≤ 59 ∧ rawSecond p ≤ 59 :=
  validDateTime_iff ..

theorem timestamp_eq_none_iff (p : Payload) : timestamp p = none ↔ fieldsValid p = false := by
  simp [timestamp_eq_ite]

theorem timestamp_eq_some_iff (p : Payload) (t : Timestamp) :
    timestamp p = some t ↔ fieldsValid p = true ∧ t = stampOf p := by
  rw [timestamp_eq_ite, Option.ite_none_right_eq_some, Option.some_inj, @eq_comm _ t]

/-- Settles O33: `bcd2` spells each field, and `timestamp_fields` says that narrowing keeps its value. -/
theorem timestampFieldsFromDigits : Obligations.TimestampFieldsFromDigits := by
  unfold Obligations.TimestampFieldsFromDigits
  intro p hd
  exact ⟨timestamp_eq_none_iff p, decodePayload_of_no_timestamp hd, fun _ ht => (timestamp_fields hd ht).2⟩

/-- Settles O36: two records of one payload hold its one timestamp. -/
theorem timestampReadsOnlyItsDigits : Obligations.TimestampReadsOnlyItsDigits := by
  unfold Obligations.TimestampReadsOnlyItsDigits
  refine ⟨fun _ _ => timestamp_congr, fun p src src' rc rc' r r' hr hr' => ?_⟩
  obtain ⟨t, lo, hi, _, ht, _, rfl⟩ := (decodePayload_eq_ok_iff p src rc r).1 hr
  obtain ⟨t', lo', hi', _, ht', _, rfl⟩ := (decodePayload_eq_ok_iff p src' rc' r').1 hr'
  obtain rfl : t = t' := Option.some.inj (ht.symm.trans ht')
  exact ⟨rfl, rfl, rfl, rfl, rfl, rfl⟩

/-! The corner cases (42_timestamp.md R178). -/

/-- A payload with a field out of its bounds has no timestamp. -/
theorem timestamp_eq_none_of_not {p : Payload}
    (h : ¬((1 ≤ rawMonth p ∧ rawMonth p ≤ 12) ∧
      (1 ≤ correctedDay p ∧ correctedDay p ≤ daysInMonth (Config.yearBase + rawYear p) (rawMonth p)) ∧
      rawHour p ≤ 23 ∧ rawMinute p ≤ 59 ∧ rawSecond p ≤ 59)) : timestamp p = none := by
  rw [timestamp_eq_none_iff, ← Bool.not_eq_true, fieldsValid_iff]
  exact h

theorem correctedDay_eq {p : Payload} {d : Nat} (h : rawDay p = d) : correctedDay p = (d : Int) - 40 :=
  congrArg (fun n : Nat => (n : Int) - 40) h

theorem timestamp_eq_none_of_day_zero {p : Payload} (hday : rawDay p = 40) : timestamp p = none :=
  timestamp_eq_none_of_not fun ⟨_, ⟨hfirst, _⟩, _⟩ => by
    rw [correctedDay_eq hday] at hfirst
    exact absurd hfirst (by decide)

/-- The day after the last one of the month. -/
theorem timestamp_eq_none_of_day_past_end {p : Payload} {yy m d : Nat} (hyear : rawYear p = yy) (hmonth : rawMonth p = m)
    (hday : rawDay p = d) (hpast : daysInMonth (2000 + yy) m + 40 < d) : timestamp p = none :=
  timestamp_eq_none_of_not fun ⟨_, ⟨_, hlast⟩, _⟩ => by
    have hbase : Config.yearBase = 2000 := rfl
    rw [correctedDay_eq hday, hyear, hmonth, hbase] at hlast
    omega

/-- Where the date is kept, a time within its bounds can stand in for another (42_timestamp.md R175): the day is not checked
against the time. -/
theorem timestamp_of_same_date {p q : Payload} {t : Timestamp} (hdate : ∀ i : Fin 17, i.val < 11 → q[i] = p[i])
    (hhour : rawHour q ≤ 23) (hminute : rawMinute q ≤ 59) (hsecond : rawSecond q ≤ 59) (ht : timestamp p = some t) :
    timestamp q = some { t with
      hour := BitVec.ofNat 5 (rawHour q), minute := BitVec.ofNat 6 (rawMinute q), second := BitVec.ofNat 6 (rawSecond q) } := by
  have hyear : rawYear q = rawYear p := congrArg₂ bcd2 (hdate 5 (by decide)) (hdate 6 (by decide))
  have hmonth : rawMonth q = rawMonth p := congrArg₂ bcd2 (hdate 7 (by decide)) (hdate 8 (by decide))
  have hraw : rawDay q = rawDay p := congrArg₂ bcd2 (hdate 9 (by decide)) (hdate 10 (by decide))
  have hday : correctedDay q = correctedDay p := correctedDay_eq hraw
  obtain ⟨hvalid, rfl⟩ := (timestamp_eq_some_iff p t).1 ht
  obtain ⟨hm, hd, _⟩ := (fieldsValid_iff p).1 hvalid
  rw [timestamp_eq_some_iff, fieldsValid_iff, stampOf, stampOf, hyear, hmonth, hday]
  exact ⟨⟨hm, hd, hhour, hminute, hsecond⟩, rfl⟩

/-- Settles O37: each Invalid case breaks a bound, the worked dates are evaluated, and 23:59:59 is within the bounds. -/
theorem timestampCornerCases : Obligations.TimestampCornerCases := by
  unfold Obligations.TimestampCornerCases
  refine ⟨fun p => ⟨?dayZero, ?february29, ?april31, ?monthZero, ?month13, ?hour24, ?minute60, ?second60⟩,
    by decide, by decide, by decide, ?endOfDay⟩
  case dayZero =>
    rintro ⟨h9, h10⟩
    exact timestamp_eq_none_of_day_zero (congrArg₂ bcd2 h9 h10)
  case february29 =>
    rintro ⟨h5, h6, h7, h8, h9, h10⟩
    exact timestamp_eq_none_of_day_past_end (congrArg₂ bcd2 h5 h6) (congrArg₂ bcd2 h7 h8) (congrArg₂ bcd2 h9 h10) (by decide)
  case april31 =>
    rintro ⟨h7, h8, h9, h10⟩
    refine timestamp_eq_none_of_day_past_end rfl (congrArg₂ bcd2 h7 h8) (congrArg₂ bcd2 h9 h10) ?_
    rw [daysInMonth_of_short _ (by decide)]
    decide
  case monthZero =>
    rintro ⟨h7, h8⟩
    have hmonth : rawMonth p = 0 := congrArg₂ bcd2 h7 h8
    exact timestamp_eq_none_of_not fun ⟨hm, _⟩ => by omega
  case month13 =>
    rintro ⟨h7, h8⟩
    have hmonth : rawMonth p = 13 := congrArg₂ bcd2 h7 h8
    exact timestamp_eq_none_of_not fun ⟨hm, _⟩ => by omega
  case hour24 =>
    rintro ⟨h11, h12⟩
    have hhour : rawHour p = 24 := congrArg₂ bcd2 h11 h12
    exact timestamp_eq_none_of_not fun ⟨_, _, hh, _⟩ => by omega
  case minute60 =>
    rintro ⟨h13, h14⟩
    have hminute : rawMinute p = 60 := congrArg₂ bcd2 h13 h14
    exact timestamp_eq_none_of_not fun ⟨_, _, _, hm, _⟩ => by omega
  case second60 =>
    rintro ⟨h15, h16⟩
    have hsecond : rawSecond p = 60 := congrArg₂ bcd2 h15 h16
    exact timestamp_eq_none_of_not fun ⟨_, _, _, _, hs⟩ => by omega
  case endOfDay =>
    rintro p q t hdate - ⟨h11, h12, h13, h14, h15, h16⟩ ht
    have hhour : rawHour q = 23 := congrArg₂ bcd2 h11 h12
    have hminute : rawMinute q = 59 := congrArg₂ bcd2 h13 h14
    have hsecond : rawSecond q = 59 := congrArg₂ bcd2 h15 h16
    rw [timestamp_of_same_date hdate hhour.le hminute.le hsecond.le ht, hhour, hminute, hsecond]
    rfl

end Sys2Proof.Machine
end

section
/-! SUPPORT. Reset (70_reset_and_hazards.md R230, R231): what a reset edge is at the ports, and that a second one finds nothing left
to do. -/

namespace Sys2Proof.Machine

theorem inReady_of_reset (s : State) : s.inReady true = false := Bool.and_false _

section
variable {s : State} {p : Pins} {rest : List Pins}

/-- A reset edge sets the reset state, whatever else its sample offers (70_reset_and_hazards.md R230, R231). -/
theorem step_of_reset (hin : s.inputs = p :: rest) (hr : p.rst = true) :
    step s = .next { s.resetEdge with inputs := rest } :=
  step_of_quiet (edge_of_reset hin hr)

theorem tokens_of_reset (hin : s.inputs = p :: rest) (hr : p.rst = true) : s.tokens = [.reset] := by
  simp [State.tokens, hin, hr]

/-- A further reset edge uses up its sample and no more: it makes the same draw of the free values (log entry 7). -/
theorem step_resetEdge_of_reset (hr : p.rst = true) :
    step { s.resetEdge with inputs := p :: rest } = .next { s.resetEdge with inputs := rest } :=
  step_of_reset rfl hr

end

/-- Settles O9: the fields of `State.resetEdge`, and of the RESET token's `Block.afterReset`. -/
theorem resetEdgeSetsResetState : Obligations.ResetEdgeSetsResetState := by
  unfold Obligations.ResetEdgeSetsResetState
  constructor
  · intro s p rest hin hr
    exact ⟨_, step_of_reset hin hr, rfl, rfl, rfl, rfl, rfl, rfl, rfl, rfl, rfl⟩
  · exact fun m st => ⟨rfl, rfl, rfl, rfl, rfl⟩

/-- Settles O10: the first reset edge by its ports and its token, a further one by `step_resetEdge_of_reset`. -/
theorem resetBeatsTransfersAndConsumer : Obligations.ResetBeatsTransfersAndConsumer := by
  unfold Obligations.ResetBeatsTransfersAndConsumer
  intro s p rest hin hr
  refine ⟨hr ▸ inReady_of_reset s, tokens_of_reset hin hr, _, step_of_reset hin hr, rfl, rfl, rfl, ?further⟩
  case further =>
    rintro q rest' rfl hq
    exact step_resetEdge_of_reset hq

end Sys2Proof.Machine
end

section
/-! SUPPORT. Bytes lost inside a payload (70_reset_and_hazards.md R240, R241): no byte is taken for a marker there, and a marker
taken for a payload byte is no digit. -/

namespace Sys2Proof.Machine

/-- A byte inside a payload starts no frame: source and range code stay (70_reset_and_hazards.md R240). -/
theorem Block.step_src_rc_of_payload {st : Block} (hs : st.sync = .payloadExpected) (m : Mark141) (e : InEvent) :
    (st.step m e).1.src = st.src ∧ (st.step m e).1.rc = st.rc := by
  rcases st.step_src_rc m e with hkeep | ⟨_, _, _, _, hs', _⟩
  · exact hkeep
  · cases hs.symm.trans hs'

/-- A byte accepted inside a payload is stored at its index, whatever its value (70_reset_and_hazards.md R240). -/
theorem step_buf_of_payload {s s' : State} {b : Byte} (h : step s = .next s') (hs : s.sync = .payloadExpected)
    (ht : s.tokens = [.transfer (.byte b)]) (i : Fin 17) (hi : i.val = min s.cnt.toNat 16) : s'.buf[i] = b := by
  have hbuf : s'.buf = s.buf.setIfInBounds i.val b := by
    rw [hi, ← State.block_buf, step_block_of_transfer h ht]
    exact Block.step_buf_of_payload hs s.mark141 b
  rw [hbuf]
  exact Vector.getElem_setIfInBounds_self i.isLt

/-- Before the 17th byte the one transfer that ends a payload is an abort (70_reset_and_hazards.md R240). -/
theorem Block.eq_abort_of_step_ends_payload {st : Block} {m : Mark141} {e : InEvent} (hs : st.sync = .payloadExpected)
    (hc : st.cnt.toNat < 16) (h : (st.step m e).1.sync = .awaitingSync) : e = .abort := by
  cases e with
  | abort => rfl
  | byte b =>
    rw [Block.step_payloadByte hs hc] at h
    cases hs.symm.trans h

/-- Settles O51: a byte by the equations of `Block.step` inside a payload, the end of the payload by the step's token. -/
theorem payloadEndsEarlyOnlyByAbort : Obligations.PayloadEndsEarlyOnlyByAbort := by
  unfold Obligations.PayloadEndsEarlyOnlyByAbort
  intro s s' hs hc h
  simp only [← State.block_sync, ← State.block_cnt, ← State.block_src, ← State.block_rc]
  refine ⟨fun b ht => ⟨?stored, ?noFrame⟩, fun b ht hlt => ?early, fun hlt hend => ?ends⟩
  case stored =>
    intro i hi
    exact step_buf_of_payload h hs ht i (hi.trans (min_eq_left hc).symm)
  case noFrame =>
    rw [step_block_of_transfer h ht]
    exact Block.step_src_rc_of_payload hs s.mark141 (.byte b)
  case early =>
    rw [step_block_of_transfer h ht, step_emitted_of_transfer h ht, Block.step_payloadByte hs hlt]
    exact ⟨hs, cnt_succ_toNat hlt, List.append_nil _⟩
  case ends =>
    rcases step_block_cases h with ⟨_, hb⟩ | ⟨ht, _⟩ | ⟨e, ht, hb⟩
    · rw [hb] at hend
      cases hs.symm.trans hend
    · exact .inr ht
    · rw [hb] at hend
      rw [ht, Block.eq_abort_of_step_ends_payload hs hlt hend]
      exact .inl rfl

/-- Bit 7 set is a value above every digit (41_payload_decoder.md R136). -/
theorem nine_lt_of_bit7 {b : Byte} (h : b.getLsbD 7 = true) : 9 < b.toNat := by
  by_contra hle
  rw [(bit7_eq_false_iff b).2 (by omega)] at h
  cases h

/-- A byte above 9 among payload bytes 1 to 16 is reported as such, whatever the frame (41_payload_decoder.md R136). -/
theorem decodeEvent_of_nine_lt {p : Payload} (i : Fin 17) (hi : 1 ≤ i.val) (h : 9 < p[i].toNat) (src : Source)
    (rc : BitVec 3) : decodeEvent p src rc = .decodeError src .invalidDigit :=
  decodeEvent_of_err (decodePayload_of_bad_digit ((digitsOk_eq_false_iff p).2 ⟨i, hi, h⟩) src rc)

/-- The last of seventeen bytes written from index 0 on is byte 16. -/
theorem fillFrom_append_last {bs : List Byte} (hlen : bs.length = 16) (p : Payload) (b : Byte) :
    (fillFrom p 0 (bs ++ [b]))[(16 : Fin 17)] = b := by
  have hlast := fillFrom_get_of_le (bs := bs ++ [b]) (p := p) (k := 0) (16 : Fin 17) (Nat.zero_le _) (by simp [hlen])
  have hget : (bs ++ [b])[16]? = some b := hlen ▸ List.getElem?_concat_length
  exact Option.some.inj (hlast.symm.trans hget)

/-- Settles O54: the marker, then seventeen bytes that complete its payload, of which the last is no digit. -/
theorem markerTakenAsLastByteIsADecodeError : Obligations.MarkerTakenAsLastByteIsADecodeError := by
  unfold Obligations.MarkerTakenAsLastByteIsADecodeError
  intro m st kind r bs b hs hr hlen hb
  have hlast : 9 < (fillFrom st.buf 0 (bs ++ [b]))[(16 : Fin 17)].toNat := by
    rw [fillFrom_append_last hlen]
    exact nine_lt_of_bit7 hb
  have hpayload := Block.run_complete_payload m (st := st.inFrame kind r) (bs := bs ++ [b]) rfl (Nat.zero_le 16)
    (by simp [hlen, Block.inFrame])
  rw [← List.singleton_append, Block.run_append, Block.run_frameMarker m hs kind hr, hpayload]
  refine ⟨?event, rfl⟩
  case event => exact congrArg (fun ev => [ev]) (decodeEvent_of_nine_lt 16 (by decide) hlast kind r)

end Sys2Proof.Machine
end
